-- ==== Sys2Proof/Word.lean ====
section
/-! DEFINITION. The word types of the pyfibaro DIII-NET codec: every register and operand is a 16-bit
word (R5, R8), a frame is made of 8-bit bytes (R46), and a command is 40 bits when packed (R70). -/

namespace Sys2Proof

/-- A RegisterWord: "a 16-bit unsigned value as transmitted on the wire" (R5, R41). -/
abbrev Word := BitVec 16

/-- One byte: an opcode (R28) or a byte of a Modbus frame (R46). -/
abbrev Byte := BitVec 8

/-- The packed command word `cmd[39:0]` (R70). -/
abbrev CmdWord := BitVec 40

end Sys2Proof
end

