-- ==== Sys2Proof/Syntax.lean ====
section
/-! DEFINITION. The commands of the block as syntax: one constructor per row of the opcode map (R74).
Every constructor carries both operand fields `a` and `b` of the one format CMD (R70), used or not, since
an unused field may hold any value (R73). Beside it, the operand kinds of R72. -/

namespace Sys2Proof

/-- A command of the block (R74). -/
inductive Instr where
  /-- `CRC_INIT`, op = 0x01 (R122): a is unused, b is unused. -/
  | crcInit (a b : Word)
  /-- `CRC_BYTE`, op = 0x02 (R123): a is unused, b is the byte. -/
  | crcByte (a b : Word)
  /-- `CRC_READ`, op = 0x03 (R124): a is unused, b is unused. -/
  | crcRead (a b : Word)
  /-- `CRC_CHECK`, op = 0x04 (R125): a is unused, b is unused. -/
  | crcCheck (a b : Word)
  /-- `W0_SET_POWER`, op = 0x10 (R193): a is the word, b is the code (1 bit). -/
  | w0SetPower (a b : Word)
  /-- `W0_TOGGLE_POWER`, op = 0x11 (R194): a is the word, b is unused. -/
  | w0TogglePower (a b : Word)
  /-- `W0_SET_FANDIR`, op = 0x12 (R195): a is the word, b is the code (3 bits). -/
  | w0SetFandir (a b : Word)
  /-- `W0_SET_FANVOL`, op = 0x13 (R196): a is the word, b is the code (3 bits). -/
  | w0SetFanvol (a b : Word)
  /-- `W0_COMPOUND`, op = 0x14 (R197): a is the word, b is the code (3 bits). -/
  | w0Compound (a b : Word)
  /-- `W1_SET_MODE`, op = 0x20 (R198): a is the word, b is the code (4 bits). -/
  | w1SetMode (a b : Word)
  /-- `W1_FILTER_SET`, op = 0x21 (R199): a is the word, b is unused. -/
  | w1FilterSet (a b : Word)
  /-- `W1_FILTER_CLR`, op = 0x22 (R200): a is the word, b is unused. -/
  | w1FilterClr (a b : Word)
  /-- `W1_SET_OPSTAT`, op = 0x23 (R201): a is the word, b is the code (4 bits). -/
  | w1SetOpstat (a b : Word)
  /-- `TEMP_ENC_T`, op = 0x30 (R103): a is unused, b is the tenths. -/
  | tempEncT (a b : Word)
  /-- `TEMP_ENC_H`, op = 0x31 (R104): a is unused, b is the hundredths. -/
  | tempEncH (a b : Word)
  /-- `TEMP_DEC`, op = 0x32 (R105): a is the word, b is unused. -/
  | tempDec (a b : Word)
  /-- `DEC_POWER`, op = 0x40 (R165): a is the word, b is unused. -/
  | decPower (a b : Word)
  /-- `DEC_FANDIR`, op = 0x41 (R166): a is the word, b is unused. -/
  | decFandir (a b : Word)
  /-- `DEC_FANVOL`, op = 0x42 (R167): a is the word, b is unused. -/
  | decFanvol (a b : Word)
  /-- `DEC_MODE`, op = 0x43 (R168): a is the word, b is unused. -/
  | decMode (a b : Word)
  /-- `DEC_OPSTAT`, op = 0x44 (R169): a is the word, b is unused. -/
  | decOpstat (a b : Word)
  /-- `DEC_READY`, op = 0x45 (R170): a is the word, b is unused. -/
  | decReady (a b : Word)
  /-- `DEC_LINK`, op = 0x46 (R171): a is the word, b is the uid. -/
  | decLink (a b : Word)
  /-- `DEC_SBYTE_LO`, op = 0x47 (R172): a is the word, b is unused. -/
  | decSbyteLo (a b : Word)
  /-- `DEC_SBYTE_HI`, op = 0x48 (R173): a is the word, b is unused. -/
  | decSbyteHi (a b : Word)
  /-- `EXTRACT`, op = 0x49 (R174): a is the word, b is the field descriptor. -/
  | extract (a b : Word)
  /-- `ADDR_STATUS`, op = 0x50 (R140): a is unused, b is the uid. -/
  | addrStatus (a b : Word)
  /-- `ADDR_CAP`, op = 0x51 (R141): a is unused, b is the uid. -/
  | addrCap (a b : Word)
  /-- `ADDR_CTRL`, op = 0x52 (R142): a is the word number k, b is the uid. -/
  | addrCtrl (a b : Word)
  /-- `CLR_ERR`, op = 0x7F (R220): a is unused, b is unused. -/
  | clrErr (a b : Word)
  deriving DecidableEq, Repr

/-- The operand field `a`, `cmd[31:16]` (R70). -/
def Instr.opA : Instr → Word
  | .crcInit a _ => a
  | .crcByte a _ => a
  | .crcRead a _ => a
  | .crcCheck a _ => a
  | .w0SetPower a _ => a
  | .w0TogglePower a _ => a
  | .w0SetFandir a _ => a
  | .w0SetFanvol a _ => a
  | .w0Compound a _ => a
  | .w1SetMode a _ => a
  | .w1FilterSet a _ => a
  | .w1FilterClr a _ => a
  | .w1SetOpstat a _ => a
  | .tempEncT a _ => a
  | .tempEncH a _ => a
  | .tempDec a _ => a
  | .decPower a _ => a
  | .decFandir a _ => a
  | .decFanvol a _ => a
  | .decMode a _ => a
  | .decOpstat a _ => a
  | .decReady a _ => a
  | .decLink a _ => a
  | .decSbyteLo a _ => a
  | .decSbyteHi a _ => a
  | .extract a _ => a
  | .addrStatus a _ => a
  | .addrCap a _ => a
  | .addrCtrl a _ => a
  | .clrErr a _ => a

/-- The operand field `b`, `cmd[15:0]` (R70). -/
def Instr.opB : Instr → Word
  | .crcInit _ b => b
  | .crcByte _ b => b
  | .crcRead _ b => b
  | .crcCheck _ b => b
  | .w0SetPower _ b => b
  | .w0TogglePower _ b => b
  | .w0SetFandir _ b => b
  | .w0SetFanvol _ b => b
  | .w0Compound _ b => b
  | .w1SetMode _ b => b
  | .w1FilterSet _ b => b
  | .w1FilterClr _ b => b
  | .w1SetOpstat _ b => b
  | .tempEncT _ b => b
  | .tempEncH _ b => b
  | .tempDec _ b => b
  | .decPower _ b => b
  | .decFandir _ b => b
  | .decFanvol _ b => b
  | .decMode _ b => b
  | .decOpstat _ b => b
  | .decReady _ b => b
  | .decLink _ b => b
  | .decSbyteLo _ b => b
  | .decSbyteHi _ b => b
  | .extract _ b => b
  | .addrStatus _ b => b
  | .addrCap _ b => b
  | .addrCtrl _ b => b
  | .clrErr _ b => b

/-- How an operand field is read (R72). -/
inductive OperandKind where
  | unused
  | word
  | code1
  | code3
  | code4
  | byte
  | uid
  | wordNumber
  | tenths
  | hundredths
  | fieldDescriptor
  deriving DecidableEq, Repr

/-- The kind of `a` (R72, R74). -/
def Instr.aKind : Instr → OperandKind
  | .crcInit _ _ => .unused
  | .crcByte _ _ => .unused
  | .crcRead _ _ => .unused
  | .crcCheck _ _ => .unused
  | .w0SetPower _ _ => .word
  | .w0TogglePower _ _ => .word
  | .w0SetFandir _ _ => .word
  | .w0SetFanvol _ _ => .word
  | .w0Compound _ _ => .word
  | .w1SetMode _ _ => .word
  | .w1FilterSet _ _ => .word
  | .w1FilterClr _ _ => .word
  | .w1SetOpstat _ _ => .word
  | .tempEncT _ _ => .unused
  | .tempEncH _ _ => .unused
  | .tempDec _ _ => .word
  | .decPower _ _ => .word
  | .decFandir _ _ => .word
  | .decFanvol _ _ => .word
  | .decMode _ _ => .word
  | .decOpstat _ _ => .word
  | .decReady _ _ => .word
  | .decLink _ _ => .word
  | .decSbyteLo _ _ => .word
  | .decSbyteHi _ _ => .word
  | .extract _ _ => .word
  | .addrStatus _ _ => .unused
  | .addrCap _ _ => .unused
  | .addrCtrl _ _ => .wordNumber
  | .clrErr _ _ => .unused

/-- The kind of `b` (R72, R74). -/
def Instr.bKind : Instr → OperandKind
  | .crcInit _ _ => .unused
  | .crcByte _ _ => .byte
  | .crcRead _ _ => .unused
  | .crcCheck _ _ => .unused
  | .w0SetPower _ _ => .code1
  | .w0TogglePower _ _ => .unused
  | .w0SetFandir _ _ => .code3
  | .w0SetFanvol _ _ => .code3
  | .w0Compound _ _ => .code3
  | .w1SetMode _ _ => .code4
  | .w1FilterSet _ _ => .unused
  | .w1FilterClr _ _ => .unused
  | .w1SetOpstat _ _ => .code4
  | .tempEncT _ _ => .tenths
  | .tempEncH _ _ => .hundredths
  | .tempDec _ _ => .unused
  | .decPower _ _ => .unused
  | .decFandir _ _ => .unused
  | .decFanvol _ _ => .unused
  | .decMode _ _ => .unused
  | .decOpstat _ _ => .unused
  | .decReady _ _ => .unused
  | .decLink _ _ => .uid
  | .decSbyteLo _ _ => .unused
  | .decSbyteHi _ _ => .unused
  | .extract _ _ => .fieldDescriptor
  | .addrStatus _ _ => .uid
  | .addrCap _ _ => .uid
  | .addrCtrl _ _ => .uid
  | .clrErr _ _ => .unused

/-- The command as the assembler writes it: an unused operand is omitted, and an omitted operand is 0
(R77). -/
def Instr.eraseUnused : Instr → Instr
  | .crcInit _ _ => .crcInit 0 0
  | .crcByte _ b => .crcByte 0 b
  | .crcRead _ _ => .crcRead 0 0
  | .crcCheck _ _ => .crcCheck 0 0
  | .w0SetPower a b => .w0SetPower a b
  | .w0TogglePower a _ => .w0TogglePower a 0
  | .w0SetFandir a b => .w0SetFandir a b
  | .w0SetFanvol a b => .w0SetFanvol a b
  | .w0Compound a b => .w0Compound a b
  | .w1SetMode a b => .w1SetMode a b
  | .w1FilterSet a _ => .w1FilterSet a 0
  | .w1FilterClr a _ => .w1FilterClr a 0
  | .w1SetOpstat a b => .w1SetOpstat a b
  | .tempEncT _ b => .tempEncT 0 b
  | .tempEncH _ b => .tempEncH 0 b
  | .tempDec a _ => .tempDec a 0
  | .decPower a _ => .decPower a 0
  | .decFandir a _ => .decFandir a 0
  | .decFanvol a _ => .decFanvol a 0
  | .decMode a _ => .decMode a 0
  | .decOpstat a _ => .decOpstat a 0
  | .decReady a _ => .decReady a 0
  | .decLink a b => .decLink a b
  | .decSbyteLo a _ => .decSbyteLo a 0
  | .decSbyteHi a _ => .decSbyteHi a 0
  | .extract a b => .extract a b
  | .addrStatus _ b => .addrStatus 0 b
  | .addrCap _ b => .addrCap 0 b
  | .addrCtrl a b => .addrCtrl a b
  | .clrErr _ _ => .clrErr 0 0

end Sys2Proof
end

