-- ==== Sys2Proof/Decode.lean ====
section
/-! DEFINITION. The command decoder and encoder (R70 to R76). A decoder selects the command from `op`
alone; every opcode outside the map is illegal and rejected by name. -/

namespace Sys2Proof

/-- Why a command does not decode. -/
inductive DecodeError where
  /-- The opcode is not in the opcode map (R75). -/
  | illegalOp (op : Byte)
  deriving DecidableEq, Repr

/-- The command that the port values `op`, `a`, `b` present (R28, R74), or its rejection (R75). -/
def decode (op : Byte) (a b : Word) : Except DecodeError Instr :=
  match op.toNat with
  | 0x01 => .ok (.crcInit a b)
  | 0x02 => .ok (.crcByte a b)
  | 0x03 => .ok (.crcRead a b)
  | 0x04 => .ok (.crcCheck a b)
  | 0x10 => .ok (.w0SetPower a b)
  | 0x11 => .ok (.w0TogglePower a b)
  | 0x12 => .ok (.w0SetFandir a b)
  | 0x13 => .ok (.w0SetFanvol a b)
  | 0x14 => .ok (.w0Compound a b)
  | 0x20 => .ok (.w1SetMode a b)
  | 0x21 => .ok (.w1FilterSet a b)
  | 0x22 => .ok (.w1FilterClr a b)
  | 0x23 => .ok (.w1SetOpstat a b)
  | 0x30 => .ok (.tempEncT a b)
  | 0x31 => .ok (.tempEncH a b)
  | 0x32 => .ok (.tempDec a b)
  | 0x40 => .ok (.decPower a b)
  | 0x41 => .ok (.decFandir a b)
  | 0x42 => .ok (.decFanvol a b)
  | 0x43 => .ok (.decMode a b)
  | 0x44 => .ok (.decOpstat a b)
  | 0x45 => .ok (.decReady a b)
  | 0x46 => .ok (.decLink a b)
  | 0x47 => .ok (.decSbyteLo a b)
  | 0x48 => .ok (.decSbyteHi a b)
  | 0x49 => .ok (.extract a b)
  | 0x50 => .ok (.addrStatus a b)
  | 0x51 => .ok (.addrCap a b)
  | 0x52 => .ok (.addrCtrl a b)
  | 0x7F => .ok (.clrErr a b)
  | _ => .error (.illegalOp op)

/-- `cmd[39:32]` (R70). -/
def cmdOp (w : CmdWord) : Byte := w.extractLsb' 32 8

/-- `cmd[31:16]` (R70). -/
def cmdA (w : CmdWord) : Word := w.extractLsb' 16 16

/-- `cmd[15:0]` (R70). -/
def cmdB (w : CmdWord) : Word := w.extractLsb' 0 16

/-- The packed command word of the three fields (R70). -/
def packCmd (op : Byte) (a b : Word) : CmdWord := op ++ a ++ b

/-- The command of a packed command word. -/
def decodeWord (w : CmdWord) : Except DecodeError Instr := decode (cmdOp w) (cmdA w) (cmdB w)

/-- The opcode of a command (R74). -/
def Instr.opcode : Instr → Byte
  | .crcInit _ _ => 0x01#8
  | .crcByte _ _ => 0x02#8
  | .crcRead _ _ => 0x03#8
  | .crcCheck _ _ => 0x04#8
  | .w0SetPower _ _ => 0x10#8
  | .w0TogglePower _ _ => 0x11#8
  | .w0SetFandir _ _ => 0x12#8
  | .w0SetFanvol _ _ => 0x13#8
  | .w0Compound _ _ => 0x14#8
  | .w1SetMode _ _ => 0x20#8
  | .w1FilterSet _ _ => 0x21#8
  | .w1FilterClr _ _ => 0x22#8
  | .w1SetOpstat _ _ => 0x23#8
  | .tempEncT _ _ => 0x30#8
  | .tempEncH _ _ => 0x31#8
  | .tempDec _ _ => 0x32#8
  | .decPower _ _ => 0x40#8
  | .decFandir _ _ => 0x41#8
  | .decFanvol _ _ => 0x42#8
  | .decMode _ _ => 0x43#8
  | .decOpstat _ _ => 0x44#8
  | .decReady _ _ => 0x45#8
  | .decLink _ _ => 0x46#8
  | .decSbyteLo _ _ => 0x47#8
  | .decSbyteHi _ _ => 0x48#8
  | .extract _ _ => 0x49#8
  | .addrStatus _ _ => 0x50#8
  | .addrCap _ _ => 0x51#8
  | .addrCtrl _ _ => 0x52#8
  | .clrErr _ _ => 0x7F#8

/-- The packed command word of a command (R70, R74). -/
def Instr.encode (i : Instr) : CmdWord := packCmd i.opcode i.opA i.opB

/-- The families of commands (R71). -/
inductive Family where
  | crc
  | word0
  | word1
  | temperature
  | decoder
  | address
  | control
  deriving DecidableEq, Repr

/-- The family an opcode belongs to, by `op[7:4]` (R71). -/
def familyOf (op : Byte) : Option Family :=
  match op.toNat / 16 with
  | 0x0 => some .crc
  | 0x1 => some .word0
  | 0x2 => some .word1
  | 0x3 => some .temperature
  | 0x4 => some .decoder
  | 0x5 => some .address
  | 0x7 => some .control
  | _ => none

/-- One row of the opcode map (R74). -/
structure OpcodeRow where
  op : Byte
  mnemonic : String
  aKind : OperandKind
  bKind : OperandKind
  deriving DecidableEq, Repr

/-- The complete opcode map (R74), in its order. -/
def opcodeMap : List OpcodeRow := [
  ⟨0x01#8, "CRC_INIT", .unused, .unused⟩,
  ⟨0x02#8, "CRC_BYTE", .unused, .byte⟩,
  ⟨0x03#8, "CRC_READ", .unused, .unused⟩,
  ⟨0x04#8, "CRC_CHECK", .unused, .unused⟩,
  ⟨0x10#8, "W0_SET_POWER", .word, .code1⟩,
  ⟨0x11#8, "W0_TOGGLE_POWER", .word, .unused⟩,
  ⟨0x12#8, "W0_SET_FANDIR", .word, .code3⟩,
  ⟨0x13#8, "W0_SET_FANVOL", .word, .code3⟩,
  ⟨0x14#8, "W0_COMPOUND", .word, .code3⟩,
  ⟨0x20#8, "W1_SET_MODE", .word, .code4⟩,
  ⟨0x21#8, "W1_FILTER_SET", .word, .unused⟩,
  ⟨0x22#8, "W1_FILTER_CLR", .word, .unused⟩,
  ⟨0x23#8, "W1_SET_OPSTAT", .word, .code4⟩,
  ⟨0x30#8, "TEMP_ENC_T", .unused, .tenths⟩,
  ⟨0x31#8, "TEMP_ENC_H", .unused, .hundredths⟩,
  ⟨0x32#8, "TEMP_DEC", .word, .unused⟩,
  ⟨0x40#8, "DEC_POWER", .word, .unused⟩,
  ⟨0x41#8, "DEC_FANDIR", .word, .unused⟩,
  ⟨0x42#8, "DEC_FANVOL", .word, .unused⟩,
  ⟨0x43#8, "DEC_MODE", .word, .unused⟩,
  ⟨0x44#8, "DEC_OPSTAT", .word, .unused⟩,
  ⟨0x45#8, "DEC_READY", .word, .unused⟩,
  ⟨0x46#8, "DEC_LINK", .word, .uid⟩,
  ⟨0x47#8, "DEC_SBYTE_LO", .word, .unused⟩,
  ⟨0x48#8, "DEC_SBYTE_HI", .word, .unused⟩,
  ⟨0x49#8, "EXTRACT", .word, .fieldDescriptor⟩,
  ⟨0x50#8, "ADDR_STATUS", .unused, .uid⟩,
  ⟨0x51#8, "ADDR_CAP", .unused, .uid⟩,
  ⟨0x52#8, "ADDR_CTRL", .wordNumber, .uid⟩,
  ⟨0x7F#8, "CLR_ERR", .unused, .unused⟩]

/-- The 40-bit command word of a table word: the low `nbits` bits of `w`, numbered as
spec/opcode_table.json numbers them, `cmd[39:0]`. DEDUCED (assumption 11). -/
def tableWord (nbits w : Nat) : CmdWord := BitVec.ofNat 40 (w % 2 ^ nbits)

/-- The instruction the decoder reads from a table word. -/
def decodeTableWord (nbits w : Nat) : Option Instr := (decodeWord (tableWord nbits w)).toOption

end Sys2Proof
end

