-- ==== Sys2Proof/Machine/Bits.lean ====
section
/-! DEFINITION. The helper functions of R9 and the bytes of a word on the wire (R47). -/

namespace Sys2Proof.Machine

/-- `zext_16` of one bit (R9, R165). -/
def bitWord (x : Bool) : Word := if x then 1 else 0

/-- `s16(w)`: the signed view of a word (R9). -/
def s16 (w : Word) : Int := w.toInt

/-- `sext_8` of a byte, as a 16-bit word (R9, R172). -/
def sext8 (x : Byte) : Word := BitVec.ofInt 16 x.toInt

/-- The mask of a field of `width` bits at bit `lo` (R9). -/
def fieldMask (lo width : Nat) : Word := BitVec.ofNat 16 (2 ^ width - 1) <<< lo

/-- `field(w, lo + width - 1, lo)` (R9). -/
def field (w : Word) (lo width : Nat) : Word := (w >>> lo) &&& fieldMask 0 width

/-- `ins(w, lo + width - 1, lo, v)` (R9). -/
def ins (w : Word) (lo width : Nat) (v : Word) : Word :=
  (w &&& ~~~ fieldMask lo width) ||| ((v &&& fieldMask 0 width) <<< lo)

/-- `w[7:0]` (R7). -/
def loByte (w : Word) : Byte := w.extractLsb' 0 8

/-- `w[15:8]` (R7). -/
def hiByte (w : Word) : Byte := w.extractLsb' 8 8

/-- A register word on the wire: high byte first (R47). -/
def wordBytes (w : Word) : List Byte := [hiByte w, loByte w]

end Sys2Proof.Machine
end

