-- ==== Sys2Proof/Machine/State.lean ====
section
/-! DEFINITION. The state of the block: the three registers of R20, and beside them what the host drives
on the command inputs from now on (R28). The block has no memory, no program counter, no general
registers, no mode and no interrupt state (R31 to R33, R40, R49, R55, R57, R79, R247, R249 to R254). -/

namespace Sys2Proof.Machine

/-- The values on the block's inputs in one step: `rst`, and the command `op`, `a`, `b` (R28). -/
structure HostInput where
  rst : Bool
  op : Byte
  a : Word
  b : Word
  deriving DecidableEq, Repr

/-- The architectural state. `crc`, `res` and `status` are the block's registers, all it has (R20).
`inputs` is the host's, not the block's: what it will present, one entry a step, in issue order
(R30, R53; assumption 1). -/
structure State where
  /-- CRC: the running CRC-16 of the bytes fed since the last CRC_INIT or reset (R21). -/
  crc : Word
  /-- RES: the result word of the last successful command that produces one (R22). -/
  res : Word
  /-- STATUS: ERR [2:0], STK [3], LBL [4], and [15:5] reserved (R23). -/
  status : Word
  /-- The port values the host presents from this step on, the next step's first (R28, R30). -/
  inputs : List HostInput
  deriving DecidableEq, Repr

/-- The named values of STATUS.ERR (R24). The values 5, 6 and 7 are reserved and have no name. -/
inductive ErrCode where
  /-- The last command completed successfully. -/
  | none
  /-- The opcode is not assigned. -/
  | illegalOp
  /-- A uid operand outside [100, 115]. -/
  | invalidUnit
  /-- An operand outside its domain. -/
  | invalidArgument
  /-- Reserved: never written by any command (R248). -/
  | preconditionViolation
  deriving DecidableEq, Repr

/-- The errors a command can raise (R241). -/
inductive BlockError where
  /-- Any unassigned opcode (R75). -/
  | illegalOp
  /-- DEC_LINK, ADDR_STATUS, ADDR_CAP and ADDR_CTRL: a uid outside [100, 115]. -/
  | invalidUnit
  /-- The encoders, TEMP_ENC_T, TEMP_ENC_H, CRC_BYTE, ADDR_CTRL and EXTRACT: an operand outside its
  domain. -/
  | invalidArgument
  deriving DecidableEq, Repr

/-- The faults of the block: none. An error transfers no control and stops nothing: the failing command
completes and reports in STATUS (R240). Assumption 12. -/
inductive Fault : Type where
  deriving DecidableEq, Repr

/-- Why a step has no next state. -/
inductive Refusal where
  /-- Raised by `exec` for a command with no meaning yet. None is left: every arm has its meaning. -/
  | notModelled (mnemonic : String)
  /-- Raised by `step` when the host presents nothing: the spec gives a step only for a presented
  command or an asserted reset (R28, R30, R280). Safe (assumption 3). -/
  | noCommand
  deriving DecidableEq, Repr

/-- The state right after reset (R34, R280), with nothing presented yet. -/
def State.reset : State :=
  { crc := 0xFFFF
    res := 0x0000
    status := 0x0000
    inputs := [] }

end Sys2Proof.Machine
end

