-- ==== Sys2Proof/Machine/Operands.lean ====
section
/-! DEFINITION. Every operand form of R72: how the command reads the field, and the error it raises when
the field lies outside its domain. The kinds `word` and `unused` need no reading. -/

namespace Sys2Proof.Machine

/-- A code for a field of `width` bits: `zext_16(b)`, INVALID_ARGUMENT when it does not fit (R72, R192). -/
def readCode (width : Nat) (b : Word) : Except BlockError Word :=
  if b.toNat < 2 ^ width then .ok b else .error .invalidArgument

/-- A byte: INVALID_ARGUMENT above 0xFF (R72). -/
def readByte (b : Word) : Except BlockError Byte :=
  if b.toNat ≤ 0xFF then .ok (loByte b) else .error .invalidArgument

/-- A uid: INVALID_UNIT outside [100, 115] (R72, R43). -/
def readUid (b : Word) : Except BlockError Nat :=
  if b.toNat < 100 ∨ 115 < b.toNat then .error .invalidUnit else .ok b.toNat

/-- A control word number: INVALID_ARGUMENT outside [1, 3] (R72). -/
def readWordNumber (a : Word) : Except BlockError Nat :=
  if a.toNat < 1 ∨ 3 < a.toNat then .error .invalidArgument else .ok a.toNat

/-- Signed tenths of a degree, in the setpoint domain (R72, R101). -/
def readTenths (b : Word) : Except BlockError Int :=
  if 1279 < (s16 b).natAbs then .error .invalidArgument else .ok (s16 b)

/-- Signed hundredths of a degree, in the setpoint domain, checked before rounding (R72, R101). -/
def readHundredths (b : Word) : Except BlockError Int :=
  if 12790 < (s16 b).natAbs then .error .invalidArgument else .ok (s16 b)

/-- A field descriptor: `lo = b[3:0]`, `width = b[7:4] + 1`, INVALID_ARGUMENT when `b[15:8]` is not 0 or
the field runs past bit 15 (R72, R174). -/
def readDescriptor (b : Word) : Except BlockError (Nat × Nat) :=
  let lo := (field b 0 4).toNat
  let width := (field b 4 4).toNat + 1
  if field b 8 8 ≠ 0 ∨ 16 < lo + width then .error .invalidArgument else .ok (lo, width)

end Sys2Proof.Machine
end

