-- ==== Sys2Proof/Machine/Flags.lean ====
section
/-! DEFINITION. The fields of STATUS (R23) and the codes of STATUS.ERR (R24). Each write changes its own
field, so the reserved bits are written by nothing (R27). -/

namespace Sys2Proof.Machine

/-- The encoding of STATUS.ERR (R24). -/
def ErrCode.code : ErrCode → Word
  | .none => 0
  | .illegalOp => 1
  | .invalidUnit => 2
  | .invalidArgument => 3
  | .preconditionViolation => 4

/-- The code an error reports (R24, R241). -/
def BlockError.errCode : BlockError → ErrCode
  | .illegalOp => .illegalOp
  | .invalidUnit => .invalidUnit
  | .invalidArgument => .invalidArgument

/-- STATUS.ERR, bits [2:0] (R23). -/
def statusErr (st : Word) : Word := field st 0 3

/-- STATUS.STK, bit [3] (R23). -/
def statusStk (st : Word) : Bool := st.getLsbD 3

/-- STATUS.LBL, bit [4] (R23). -/
def statusLbl (st : Word) : Bool := st.getLsbD 4

/-- STATUS[15:5], reserved (R23, R27). -/
def statusReserved (st : Word) : Word := field st 5 11

/-- `STATUS.ERR <- e`. -/
def setErr (e : ErrCode) (st : Word) : Word := ins st 0 3 e.code

/-- `STATUS.STK <- x`. -/
def setStk (x : Bool) (st : Word) : Word := ins st 3 1 (bitWord x)

/-- `STATUS.LBL <- x`. -/
def setLbl (x : Bool) (st : Word) : Word := ins st 4 1 (bitWord x)

/-- STATUS after a command that succeeds: ERR is NONE, LBL is the command's, STK stays (R24 to R26). -/
def statusOk (lbl : Bool) (st : Word) : Word := setLbl lbl (setErr .none st)

/-- STATUS after a command that raises `e`: ERR is its code, STK is 1, LBL is 0 (R242). -/
def statusError (e : BlockError) (st : Word) : Word :=
  setLbl false (setStk true (setErr e.errCode st))

/-- STATUS after CLR_ERR: ERR, STK and LBL are 0 (R220). -/
def statusCleared (st : Word) : Word := setLbl false (setStk false (setErr .none st))

/-- The name of the code in STATUS.ERR, where it has one (R24). -/
def errName (st : Word) : Option ErrCode :=
  match (statusErr st).toNat with
  | 0 => some .none
  | 1 => some .illegalOp
  | 2 => some .invalidUnit
  | 3 => some .invalidArgument
  | 4 => some .preconditionViolation
  | _ => none

end Sys2Proof.Machine
end

