-- ==== Sys2Proof/Machine/Ops.lean ====
section
/-! DEFINITION. The shared operations on the registers: what a successful command writes, what an error
writes (R242), and reset (R280). Every command reads the registers first and writes them all at once at
the end of its step (R30). -/

namespace Sys2Proof.Machine

/-- What a successful command writes: CRC and RES where it writes them, and its LBL (R30). -/
structure Writes where
  crc : Option Word := none
  res : Option Word := none
  lbl : Bool := false
  deriving DecidableEq, Repr

/-- All the writes of a successful command, at once (R30); ERR becomes NONE and STK stays (R24, R25). -/
def succeed (w : Writes) (s : State) : State :=
  { s with
    crc := w.crc.getD s.crc
    res := w.res.getD s.res
    status := statusOk w.lbl s.status }

/-- `raise e` (R10): taking an error. STATUS reports it, CRC and RES keep their values, and no control is
transferred (R240, R242). There is no handler, so no nesting and no return: the next command runs normally,
and nothing an earlier one did is undone (R244 to R246). -/
def raiseError (e : BlockError) (s : State) : State :=
  { s with status := statusError e s.status }

/-- The end of a command's step: its writes, or the error it raises (R30, R242). -/
def complete (r : Except BlockError Writes) (s : State) : Host.Outcome State Fault Refusal :=
  match r with
  | .ok w => .next (succeed w s)
  | .error e => .next (raiseError e s)

/-- The end of a command that delivers one result word to RES (R22). -/
def completeRes (r : Except BlockError Word) (s : State) : Host.Outcome State Fault Refusal :=
  complete (r.map fun v => { res := some v }) s

/-- The end of a labelled decoder: the code to RES, and LBL when the code has a label (R26, R164). -/
def completeLabelled (code : Word) (lbl : Bool) (s : State) : Host.Outcome State Fault Refusal :=
  complete (.ok { res := some code, lbl := lbl }) s

/-- A step in which `rst` is asserted: every register takes its reset value and no command executes
(R34, R280). -/
def resetRegisters (s : State) : State :=
  { s with crc := State.reset.crc, res := State.reset.res, status := State.reset.status }

end Sys2Proof.Machine
end

