-- ==== Sys2Proof/Machine/Address.lean ====
section
/-! DEFINITION. Register address arithmetic (R41 to R43, R140 to R142): the wire addresses of a unit's
status block, capability block and control words. -/

namespace Sys2Proof.Machine

/-- The two register spaces of the adapter (R41). -/
inductive Space where
  | input
  | holding
  deriving DecidableEq, Repr

/-- The base offset of a space: wire address = physical address - base (R41). -/
def Space.base : Space → Nat
  | .input => 30001
  | .holding => 40001

/-- The address `ADDR_STATUS` computes (R140). -/
def addrStatusWord (b : Word) : Except BlockError Word :=
  (readUid b).map fun uid => BitVec.ofNat 16 (2000 + 6 * (uid - 100))

/-- The address `ADDR_CAP` computes (R141). -/
def addrCapWord (b : Word) : Except BlockError Word :=
  (readUid b).map fun uid => BitVec.ofNat 16 (1000 + 3 * (uid - 100))

/-- The address `ADDR_CTRL` computes. The uid is checked first (R142, R243). -/
def addrCtrlWord (a b : Word) : Except BlockError Word :=
  match readUid b with
  | .error e => .error e
  | .ok uid => (readWordNumber a).map fun k => BitVec.ofNat 16 (1999 + k + 3 * (uid - 100))

/-- `ADDR_STATUS` (R140). -/
def execAddrStatus (_a b : Word) (s : State) : Host.Outcome State Fault Refusal :=
  completeRes (addrStatusWord b) s

/-- `ADDR_CAP` (R141). -/
def execAddrCap (_a b : Word) (s : State) : Host.Outcome State Fault Refusal :=
  completeRes (addrCapWord b) s

/-- `ADDR_CTRL` (R142). -/
def execAddrCtrl (a b : Word) (s : State) : Host.Outcome State Fault Refusal :=
  completeRes (addrCtrlWord a b) s

end Sys2Proof.Machine
end

