-- ==== Sys2Proof/Machine/Control.lean ====
section
/-! DEFINITION. Block control (R220) and the unassigned opcodes (R75). -/

namespace Sys2Proof.Machine

/-- `CLR_ERR`: clear the error state; RES and CRC are unchanged (R220). -/
def execClrErr (_a _b : Word) (s : State) : Host.Outcome State Fault Refusal :=
  .next { s with status := statusCleared s.status }

/-- A command whose opcode is not assigned: it raises ILLEGAL_OP (R75, R241). -/
def execIllegalOp (s : State) : Host.Outcome State Fault Refusal :=
  complete (.error .illegalOp) s

end Sys2Proof.Machine
end

