-- ==== Sys2Proof/Machine/Crc.lean ====
section
/-! DEFINITION. The Modbus-RTU CRC-16 generator and checker (R120 to R125). -/

namespace Sys2Proof.Machine

/-- The initial value of CRC-16/MODBUS (R120). -/
def crcInitial : Word := 0xFFFF

/-- The bit-reflected polynomial (R120). -/
def crcPoly : Word := 0xA001

/-- One round of the byte update (R121). -/
def crcShift (c : Word) : Word :=
  if c.getLsbD 0 then (c >>> 1) ^^^ crcPoly else c >>> 1

/-- `n` rounds of the byte update (R121). -/
def crcShifts : Nat → Word → Word
  | 0, c => c
  | n + 1, c => crcShifts n (crcShift c)

/-- The byte update function (R121). -/
def crcUpdate (c : Word) (x : Byte) : Word := crcShifts 8 (c ^^^ x.zeroExtend 16)

/-- `crcOf(x0 … xn-1)` (R121). -/
def crcOf (xs : List Byte) : Word := xs.foldl crcUpdate crcInitial

/-- `CRC_INIT` (R122). -/
def execCrcInit (_a _b : Word) (s : State) : Host.Outcome State Fault Refusal :=
  complete (.ok { crc := some crcInitial }) s

/-- `CRC_BYTE` (R123). -/
def execCrcByte (_a b : Word) (s : State) : Host.Outcome State Fault Refusal :=
  complete ((readByte b).map fun x => { crc := some (crcUpdate s.crc x) }) s

/-- `CRC_READ` (R124). -/
def execCrcRead (_a _b : Word) (s : State) : Host.Outcome State Fault Refusal :=
  completeRes (.ok s.crc) s

/-- `CRC_CHECK` (R125). -/
def execCrcCheck (_a _b : Word) (s : State) : Host.Outcome State Fault Refusal :=
  completeRes (.ok (bitWord (s.crc == 0))) s

end Sys2Proof.Machine
end

