-- ==== Sys2Proof/Config.lean ====
section
/-! DEFINITION. The parameters the source leaves open (R6), each a fixed argument of the model and not
state (R20): `Params` holds one value for each, and `Config.params` are the values of this machine. There
a parameter with a stated default is that default; an OPEN parameter is a constant with no body, so that
nothing can be proved about its value and every claim holds whatever it is. -/

namespace Sys2Proof

/-- The values of P_ROUND_TIE (R6, R102). -/
inductive RoundTie where
  | halfEven
  | halfAway
  deriving DecidableEq, Repr, Inhabited

/-- What P_FANDIR_LABEL gives one of the codes 5 and 6 (R6, R163): no label, or STOP. -/
inductive OpenFanDirLabel where
  | noLabel
  | stop
  deriving DecidableEq, Repr, Inhabited

/-- The labels of the operating-status field (R163). Their codes are in no source. -/
inductive OpStatLabel where
  | fan
  | heating
  | cooling
  deriving DecidableEq, Repr, Inhabited

/-- The status fields whose position no source gives (R161). -/
inductive StatusField where
  | forcedOff
  | filterSign
  | masterSlave
  | errorCode1
  | errorCode2
  | malfunction
  | warning
  | roomTemperature
  | sensorError
  | sensorDataReceived
  deriving DecidableEq, Repr, Inhabited

/-- The capability fields (R162). -/
inductive CapField where
  | fanPresent
  | coolingPresent
  | heatingPresent
  | autoPresent
  | dryPresent
  | fanDirSteps
  | fanDirPresent
  | fanVolSteps
  | fanVolPresent
  | coolingUpper
  | coolingLower
  | heatingUpper
  | heatingLower
  deriving DecidableEq, Repr, Inhabited

/-- The fields of the adapter initial settings word (R6, P_INIT_LAYOUT). -/
inductive InitField where
  | managed
  | master
  | commStart
  deriving DecidableEq, Repr, Inhabited

namespace Config

/-- P_ROUND_TIE at the default the spec states, HALF_EVEN (R6, R102).
DESIGN CHOICE (the spec's own default, assumption 4), unsafe at ties. -/
def roundTie : RoundTie := .halfEven

/-- P_FANDIR_LABEL of code 5: OPEN (R6, D21). Assumption 5, safe. -/
opaque fanDirLabel5 : OpenFanDirLabel

/-- P_FANDIR_LABEL of code 6: OPEN (R6, D21). Assumption 5, safe. -/
opaque fanDirLabel6 : OpenFanDirLabel

/-- P_OPSTAT_LABEL, a partial map from the 4-bit code: OPEN (R6, D22). Assumption 5, safe. -/
opaque opStatLabel : BitVec 4 → Option OpStatLabel

/-- P_STATUS_LAYOUT: the word (0 to 5), the low bit and the width less one of each field of R161. OPEN
(R6, D19). `Machine.statusPos` keeps the field inside its word. Assumption 6, safe. -/
opaque statusLayout : StatusField → Fin 6 × Fin 16 × Fin 16

/-- P_CAP_LAYOUT: the word (0 to 2), the low bit and the width less one of each field of R162. OPEN
(R6, D20). `Machine.capPos` keeps the field inside its word. Assumption 6, safe. -/
opaque capLayout : CapField → Fin 3 × Fin 16 × Fin 16

/-- P_INIT_LAYOUT: the low bit and the width less one of each field of the initial settings word. OPEN
(R6, D42). The block has no command for this word. Assumption 6, safe. -/
opaque initLayout : InitField → Fin 16 × Fin 16

/-- P_SLAVE_ADDR less one: OPEN in 1..247 (R6, D30). Assumption 6, safe. -/
opaque slaveAddrLessOne : Fin 247

/-- P_PRIME_REQUIRED = true (R6, R291). -/
def primeRequired : Bool := true

end Config

/-- One value for every parameter of R6: the argument the model takes (R6, R20). -/
structure Params where
  /-- P_ROUND_TIE. -/
  roundTie : RoundTie
  /-- P_FANDIR_LABEL of code 5. -/
  fanDirLabel5 : OpenFanDirLabel
  /-- P_FANDIR_LABEL of code 6. -/
  fanDirLabel6 : OpenFanDirLabel
  /-- P_OPSTAT_LABEL. -/
  opStatLabel : BitVec 4 → Option OpStatLabel
  /-- P_STATUS_LAYOUT: word, low bit, width less one. -/
  statusLayout : StatusField → Fin 6 × Fin 16 × Fin 16
  /-- P_CAP_LAYOUT: word, low bit, width less one. -/
  capLayout : CapField → Fin 3 × Fin 16 × Fin 16
  /-- P_INIT_LAYOUT: low bit, width less one. -/
  initLayout : InitField → Fin 16 × Fin 16
  /-- P_SLAVE_ADDR less one. -/
  slaveAddrLessOne : Fin 247
  /-- P_PRIME_REQUIRED. -/
  primeRequired : Bool

/-- P_SLAVE_ADDR, 1..247 (R6, G9). -/
def Params.slaveAddr (P : Params) : Byte := BitVec.ofNat 8 (P.slaveAddrLessOne.val + 1)

/-- The parameters of this machine. -/
def Config.params : Params :=
  { roundTie := Config.roundTie
    fanDirLabel5 := Config.fanDirLabel5
    fanDirLabel6 := Config.fanDirLabel6
    opStatLabel := Config.opStatLabel
    statusLayout := Config.statusLayout
    capLayout := Config.capLayout
    initLayout := Config.initLayout
    slaveAddrLessOne := Config.slaveAddrLessOne
    primeRequired := Config.primeRequired }

end Sys2Proof
end

