-- ==== Sys2Proof/Machine/Labels.lean ====
section
/-! DEFINITION. The code-to-label tables (R163). A code with no label decodes to none. -/

namespace Sys2Proof.Machine

/-- The fan-direction labels (R163). -/
inductive FanDirLabel where
  | p0
  | p1
  | p2
  | p3
  | p4
  | stop
  | swing
  deriving DecidableEq, Repr

/-- The fan-volume labels (R163). -/
inductive FanVolLabel where
  | low
  | medium
  | high
  deriving DecidableEq, Repr

/-- The operating-mode labels (R163). -/
inductive ModeLabel where
  | fan
  | heating
  | cooling
  | auto
  | dry
  deriving DecidableEq, Repr

/-- What P_FANDIR_LABEL gives a code, as a label (R163). -/
def openFanDir : OpenFanDirLabel → Option FanDirLabel
  | .noLabel => none
  | .stop => some .stop

/-- The label of a fan-direction code, with P_FANDIR_LABEL of 5 and of 6 as arguments (R163). -/
def fanDirLabel (label5 label6 : OpenFanDirLabel) (code : Nat) : Option FanDirLabel :=
  match code with
  | 0 => some .p0
  | 1 => some .p1
  | 2 => some .p2
  | 3 => some .p3
  | 4 => some .p4
  | 5 => openFanDir label5
  | 6 => openFanDir label6
  | 7 => some .swing
  | _ => none

/-- The label of a fan-volume code (R163). -/
def fanVolLabel (code : Nat) : Option FanVolLabel :=
  match code with
  | 1 => some .low
  | 3 => some .medium
  | 5 => some .high
  | _ => none

/-- The label of an operating-mode code (R163). -/
def modeLabel (code : Nat) : Option ModeLabel :=
  match code with
  | 0 => some .fan
  | 1 => some .heating
  | 2 => some .cooling
  | 3 => some .auto
  | 7 => some .dry
  | _ => none

/-- The label of an operating-status code, with P_OPSTAT_LABEL as an argument (R163). -/
def opStatLabel (labels : BitVec 4 → Option OpStatLabel) (code : Nat) : Option OpStatLabel :=
  labels (BitVec.ofNat 4 code)

end Sys2Proof.Machine
end

