-- ==== Sys2Proof/Machine/FieldDecode.lean ====
section
/-! DEFINITION. The bit-field decoder (R160 to R174). A labelled decoder never fails on a code it does
not know: it returns the code with LBL = 0 (R164). -/

namespace Sys2Proof.Machine

/-- The on/off bit of status word 0 (R160, R165). -/
def powerBit (a : Word) : Bool := a.getLsbD 0

/-- The fan-direction code of status word 0, `a[10:8]` (R166). -/
def fanDirCode (a : Word) : Word := field a 8 3

/-- The fan-volume code of status word 0, `a[14:12]` (R167). -/
def fanVolCode (a : Word) : Word := field a 12 3

/-- The operating-mode code of status word 1, `a[3:0]` (R168). -/
def modeCode (a : Word) : Word := field a 0 4

/-- The operating-status code of status word 1, `a[11:8]` (R169). -/
def opStatCode (a : Word) : Word := field a 8 4

/-- The adapter's readiness bit (R170). -/
def readyBit (a : Word) : Bool := a.getLsbD 0

/-- The word `DEC_LINK` computes: bit `uid - 100` of the map word (R171). -/
def linkWord (a b : Word) : Except BlockError Word :=
  (readUid b).map fun uid => bitWord (a.getLsbD (uid - 100))

/-- The word `EXTRACT` computes (R174). -/
def extractWord (a b : Word) : Except BlockError Word :=
  (readDescriptor b).map fun d => (a >>> d.1) &&& BitVec.ofNat 16 (2 ^ d.2 - 1)

/-- `DEC_POWER` (R165). -/
def execDecPower (a _b : Word) (s : State) : Host.Outcome State Fault Refusal :=
  completeRes (.ok (bitWord (powerBit a))) s

/-- `DEC_FANDIR` with P_FANDIR_LABEL of 5 and of 6 as arguments (R6, R166). -/
def execDecFandirWith (label5 label6 : OpenFanDirLabel) (a : Word) (s : State) :
    Host.Outcome State Fault Refusal :=
  completeLabelled (fanDirCode a) (fanDirLabel label5 label6 (fanDirCode a).toNat).isSome s

/-- `DEC_FANDIR` (R166) at this machine's P_FANDIR_LABEL (assumption 5). -/
def execDecFandir (a _b : Word) (s : State) : Host.Outcome State Fault Refusal :=
  execDecFandirWith Config.fanDirLabel5 Config.fanDirLabel6 a s

/-- `DEC_FANVOL` (R167). -/
def execDecFanvol (a _b : Word) (s : State) : Host.Outcome State Fault Refusal :=
  completeLabelled (fanVolCode a) (fanVolLabel (fanVolCode a).toNat).isSome s

/-- `DEC_MODE` (R168). -/
def execDecMode (a _b : Word) (s : State) : Host.Outcome State Fault Refusal :=
  completeLabelled (modeCode a) (modeLabel (modeCode a).toNat).isSome s

/-- `DEC_OPSTAT` with P_OPSTAT_LABEL as an argument (R6, R169). -/
def execDecOpstatWith (labels : BitVec 4 → Option OpStatLabel) (a : Word) (s : State) :
    Host.Outcome State Fault Refusal :=
  completeLabelled (opStatCode a) (opStatLabel labels (opStatCode a).toNat).isSome s

/-- `DEC_OPSTAT` (R169) at this machine's P_OPSTAT_LABEL (assumption 5). -/
def execDecOpstat (a _b : Word) (s : State) : Host.Outcome State Fault Refusal :=
  execDecOpstatWith Config.opStatLabel a s

/-- `DEC_READY` (R170). -/
def execDecReady (a _b : Word) (s : State) : Host.Outcome State Fault Refusal :=
  completeRes (.ok (bitWord (readyBit a))) s

/-- `DEC_LINK` (R171). -/
def execDecLink (a b : Word) (s : State) : Host.Outcome State Fault Refusal :=
  completeRes (linkWord a b) s

/-- `DEC_SBYTE_LO` (R172). -/
def execDecSbyteLo (a _b : Word) (s : State) : Host.Outcome State Fault Refusal :=
  completeRes (.ok (sext8 (loByte a))) s

/-- `DEC_SBYTE_HI` (R173). -/
def execDecSbyteHi (a _b : Word) (s : State) : Host.Outcome State Fault Refusal :=
  completeRes (.ok (sext8 (hiByte a))) s

/-- `EXTRACT` (R174). -/
def execExtract (a b : Word) (s : State) : Host.Outcome State Fault Refusal :=
  completeRes (extractWord a b) s

end Sys2Proof.Machine
end

