-- ==== Sys2Proof/Machine/Temperature.lean ====
section
/-! DEFINITION. The signed fixed-point temperature converter (R100 to R107). -/

namespace Sys2Proof.Machine

/-- `tempValue(w)`: the exact value in degrees Celsius a temperature word stands for (R100). -/
def tempValue (w : Word) : Rat := (s16 w : Rat) / 10

/-- The value in hundredths of a degree, whose two last digits the rendering shows (R107). -/
def tempHundredths (w : Word) : Int := 10 * s16 w

/-- `roundDiv10(c)`: the integer nearest to c/10, with P_ROUND_TIE as an argument (R102). Lean's `/` and
`%` by 10 are floor division and its non-negative remainder (R8). -/
def roundDiv10 (tie : RoundTie) (c : Int) : Int :=
  let q := c / 10
  let r := c % 10
  if 5 < r then q + 1
  else if r < 5 then q
  else match tie with
    | .halfEven => if q % 2 = 0 then q else q + 1
    | .halfAway => if 0 ≤ c then q + 1 else q

/-- The word `TEMP_ENC_T` computes (R103). -/
def tempEncTWord (b : Word) : Except BlockError Word :=
  (readTenths b).map fun t => BitVec.ofInt 16 t

/-- The word `TEMP_ENC_H` computes, with P_ROUND_TIE as an argument (R104). -/
def tempEncHWord (tie : RoundTie) (b : Word) : Except BlockError Word :=
  (readHundredths b).map fun c => BitVec.ofInt 16 (roundDiv10 tie c)

/-- `TEMP_ENC_T` (R103). -/
def execTempEncT (_a b : Word) (s : State) : Host.Outcome State Fault Refusal :=
  completeRes (tempEncTWord b) s

/-- `TEMP_ENC_H` with P_ROUND_TIE as an argument (R6, R104). -/
def execTempEncHWith (tie : RoundTie) (b : Word) (s : State) : Host.Outcome State Fault Refusal :=
  completeRes (tempEncHWord tie b) s

/-- `TEMP_ENC_H` (R104) at this machine's P_ROUND_TIE (assumption 4). -/
def execTempEncH (_a b : Word) (s : State) : Host.Outcome State Fault Refusal :=
  execTempEncHWith Config.roundTie b s

/-- `TEMP_DEC` (R105). -/
def execTempDec (a _b : Word) (s : State) : Host.Outcome State Fault Refusal :=
  completeRes (.ok a) s

end Sys2Proof.Machine
end

