-- ==== Sys2Proof/Machine/Word0.lean ====
section
/-! DEFINITION. The word-0 encoders (R190 to R197): each takes the current word in `a` and changes only
the bits its rule names. -/

namespace Sys2Proof.Machine

/-- FAN_ENABLE, bits 6 and 5 (R191). -/
def fanEnable : Word := 0x0060

/-- The word `W0_SET_POWER` computes (R193). -/
def setPowerWord (a b : Word) : Except BlockError Word :=
  (readCode 1 b).map fun (v : Word) => (a &&& ~~~ 0x0001#16) ||| v

/-- The word `W0_TOGGLE_POWER` computes (R194). -/
def togglePowerWord (a : Word) : Word := a ^^^ 0x0001

/-- The word `W0_SET_FANDIR` computes (R195). -/
def setFanDirWord (a b : Word) : Except BlockError Word :=
  (readCode 3 b).map fun (v : Word) => ((a ||| fanEnable) &&& ~~~ 0x0700#16) ||| (v <<< 8)

/-- The word `W0_SET_FANVOL` computes (R196). -/
def setFanVolWord (a b : Word) : Except BlockError Word :=
  (readCode 3 b).map fun (v : Word) => ((a ||| fanEnable) &&& ~~~ 0x7000#16) ||| (v <<< 12)

/-- The word `W0_COMPOUND` computes (R197). -/
def compoundWord (a b : Word) : Except BlockError Word :=
  (readCode 3 b).map fun (v : Word) => ((a ||| fanEnable ||| 0x0001#16) &&& ~~~ 0x7000#16) ||| (v <<< 12)

/-- `W0_SET_POWER` (R193). -/
def execW0SetPower (a b : Word) (s : State) : Host.Outcome State Fault Refusal :=
  completeRes (setPowerWord a b) s

/-- `W0_TOGGLE_POWER` (R194). -/
def execW0TogglePower (a _b : Word) (s : State) : Host.Outcome State Fault Refusal :=
  completeRes (.ok (togglePowerWord a)) s

/-- `W0_SET_FANDIR` (R195). -/
def execW0SetFandir (a b : Word) (s : State) : Host.Outcome State Fault Refusal :=
  completeRes (setFanDirWord a b) s

/-- `W0_SET_FANVOL` (R196). -/
def execW0SetFanvol (a b : Word) (s : State) : Host.Outcome State Fault Refusal :=
  completeRes (setFanVolWord a b) s

/-- `W0_COMPOUND` (R197). -/
def execW0Compound (a b : Word) (s : State) : Host.Outcome State Fault Refusal :=
  completeRes (compoundWord a b) s

end Sys2Proof.Machine
end

