-- ==== Sys2Proof/Machine/Word1.lean ====
section
/-! DEFINITION. The word-1 encoders (R190, R192, R198 to R201). -/

namespace Sys2Proof.Machine

/-- The word `W1_SET_MODE` computes (R198). -/
def setModeWord (a b : Word) : Except BlockError Word :=
  (readCode 4 b).map fun (v : Word) => (a &&& ~~~ 0x000F#16) ||| v

/-- The word `W1_FILTER_SET` computes (R199). -/
def filterSetWord (a : Word) : Word := a ||| 0x00F0

/-- The word `W1_FILTER_CLR` computes (R200). -/
def filterClrWord (a : Word) : Word := a &&& ~~~ 0x00F0#16

/-- The word `W1_SET_OPSTAT` computes (R201). -/
def setOpStatWord (a b : Word) : Except BlockError Word :=
  (readCode 4 b).map fun (v : Word) => (a &&& ~~~ 0x0F00#16) ||| (v <<< 8)

/-- `W1_SET_MODE` (R198). -/
def execW1SetMode (a b : Word) (s : State) : Host.Outcome State Fault Refusal :=
  completeRes (setModeWord a b) s

/-- `W1_FILTER_SET` (R199). -/
def execW1FilterSet (a _b : Word) (s : State) : Host.Outcome State Fault Refusal :=
  completeRes (.ok (filterSetWord a)) s

/-- `W1_FILTER_CLR` (R200). -/
def execW1FilterClr (a _b : Word) (s : State) : Host.Outcome State Fault Refusal :=
  completeRes (.ok (filterClrWord a)) s

/-- `W1_SET_OPSTAT` (R201). -/
def execW1SetOpstat (a b : Word) (s : State) : Host.Outcome State Fault Refusal :=
  completeRes (setOpStatWord a b) s

end Sys2Proof.Machine
end

