-- ==== Sys2Proof/Machine/Dispatch.lean ====
section
/-! DEFINITION. One arm per command of the opcode map (R74). -/

namespace Sys2Proof.Machine

/-- The meaning of a command (R74). -/
def exec (i : Instr) (s : State) : Host.Outcome State Fault Refusal :=
  match i with
  | .crcInit a b => Sys2Proof.Machine.execCrcInit a b s
  | .crcByte a b => Sys2Proof.Machine.execCrcByte a b s
  | .crcRead a b => Sys2Proof.Machine.execCrcRead a b s
  | .crcCheck a b => Sys2Proof.Machine.execCrcCheck a b s
  | .w0SetPower a b => Sys2Proof.Machine.execW0SetPower a b s
  | .w0TogglePower a b => Sys2Proof.Machine.execW0TogglePower a b s
  | .w0SetFandir a b => Sys2Proof.Machine.execW0SetFandir a b s
  | .w0SetFanvol a b => Sys2Proof.Machine.execW0SetFanvol a b s
  | .w0Compound a b => Sys2Proof.Machine.execW0Compound a b s
  | .w1SetMode a b => Sys2Proof.Machine.execW1SetMode a b s
  | .w1FilterSet a b => Sys2Proof.Machine.execW1FilterSet a b s
  | .w1FilterClr a b => Sys2Proof.Machine.execW1FilterClr a b s
  | .w1SetOpstat a b => Sys2Proof.Machine.execW1SetOpstat a b s
  | .tempEncT a b => Sys2Proof.Machine.execTempEncT a b s
  | .tempEncH a b => Sys2Proof.Machine.execTempEncH a b s
  | .tempDec a b => Sys2Proof.Machine.execTempDec a b s
  | .decPower a b => Sys2Proof.Machine.execDecPower a b s
  | .decFandir a b => Sys2Proof.Machine.execDecFandir a b s
  | .decFanvol a b => Sys2Proof.Machine.execDecFanvol a b s
  | .decMode a b => Sys2Proof.Machine.execDecMode a b s
  | .decOpstat a b => Sys2Proof.Machine.execDecOpstat a b s
  | .decReady a b => Sys2Proof.Machine.execDecReady a b s
  | .decLink a b => Sys2Proof.Machine.execDecLink a b s
  | .decSbyteLo a b => Sys2Proof.Machine.execDecSbyteLo a b s
  | .decSbyteHi a b => Sys2Proof.Machine.execDecSbyteHi a b s
  | .extract a b => Sys2Proof.Machine.execExtract a b s
  | .addrStatus a b => Sys2Proof.Machine.execAddrStatus a b s
  | .addrCap a b => Sys2Proof.Machine.execAddrCap a b s
  | .addrCtrl a b => Sys2Proof.Machine.execAddrCtrl a b s
  | .clrErr a b => Sys2Proof.Machine.execClrErr a b s

end Sys2Proof.Machine
end

