-- ==== Sys2Proof/Machine/Present.lean ====
section
/-! DEFINITION. What one presentation of the inputs does (R28, R30, R75, R280), and the presentation of a
packed command word (R70). -/

namespace Sys2Proof.Machine

/-- The inputs that present a packed command word, with `rst` not asserted (R28, R70). -/
def inputOfWord (w : CmdWord) : HostInput :=
  { rst := false, op := cmdOp w, a := cmdA w, b := cmdB w }

/-- The output port `res_o`: always RES (R29). -/
def State.resOut (s : State) : Word := s.res

/-- The output port `status_o`: always STATUS. CRC has no port (R29). -/
def State.statusOut (s : State) : Word := s.status

/-- The inputs that present a command. -/
def inputOf (i : Instr) : HostInput := inputOfWord i.encode

/-- A step's inputs act on the registers: reset when `rst` is asserted (R280, assumption 7), else the
command they present, or ILLEGAL_OP where the opcode is not assigned (R75). -/
def present (p : HostInput) (s : State) : Host.Outcome State Fault Refusal :=
  if p.rst then .next (resetRegisters s)
  else match decode p.op p.a p.b with
    | .ok i => exec i s
    | .error _ => execIllegalOp s

end Sys2Proof.Machine
end

