-- ==== Sys2Proof/Machine/Step.lean ====
section
/-! DEFINITION. One step of the block (R30): it takes the inputs the host presents and acts on them.
Nothing is pending between steps, so there are no hazards and no latency (R282, R292). -/

namespace Sys2Proof.Machine

/-- One step: the first presentation of `inputs` is taken and acts on the registers (R28, R30). With
nothing presented there is no step (assumption 3). -/
def step (s : State) : Host.Outcome State Fault Refusal :=
  match s.inputs with
  | [] => .refused .noCommand
  | p :: rest => present p { s with inputs := rest }

/-- The state in which the host presents the given table word next, before whatever it was going to
present (assumption 2). -/
def State.withFetchWord (s : State) (nbits w : Nat) : State :=
  { s with inputs := inputOfWord (tableWord nbits w) :: s.inputs }

end Sys2Proof.Machine
end

