-- ==== Sys2Proof/Machine/AddressMap.lean ====
section
/-! DEFINITION. The adapter's address map (R41 to R43): every item the source names, its space, its
physical and wire address and its words, and with them the addresses that exist. -/

namespace Sys2Proof.Machine

/-- The items of the address map (R42). A unit is its index `uid - 100`, and a control word its number
less one, so that no item stands outside the map. -/
inductive MapItem where
  | adapterStatus
  | connectionMap
  | communicationMap
  | capability (unit : Fin 16)
  | status (unit : Fin 16)
  | bulkStatus
  | control (k : Fin 3) (unit : Fin 16)
  | initialSettings
  deriving DecidableEq, Repr

/-- The space of an item (R42). -/
def MapItem.space : MapItem → Space
  | .adapterStatus => .input
  | .connectionMap => .input
  | .communicationMap => .input
  | .capability _ => .input
  | .status _ => .input
  | .bulkStatus => .input
  | .control _ _ => .holding
  | .initialSettings => .holding

/-- The physical address of an item (R42). -/
def MapItem.phys : MapItem → Nat
  | .adapterStatus => 30001
  | .connectionMap => 30002
  | .communicationMap => 30006
  | .capability i => 31001 + 3 * i.val
  | .status i => 32001 + 6 * i.val
  | .bulkStatus => 32001
  | .control k i => 42000 + (k.val + 1) + 3 * i.val
  | .initialSettings => 40001

/-- The words of an item (R42). -/
def MapItem.words : MapItem → Nat
  | .adapterStatus => 1
  | .connectionMap => 1
  | .communicationMap => 1
  | .capability _ => 3
  | .status _ => 6
  | .bulkStatus => 96
  | .control _ _ => 1
  | .initialSettings => 1

/-- The wire address of an item: its physical address less the base of its space (R41). -/
def MapItem.wire (m : MapItem) : Nat := m.phys - m.space.base

/-- The 16 units, in ascending uid order (R5). -/
def allUnits : List (Fin 16) := (List.range 16).map (Fin.ofNat 16)

/-- Every item of the address map (R42). -/
def mapItems : List MapItem :=
  [.adapterStatus, .connectionMap, .communicationMap, .bulkStatus, .initialSettings] ++
    allUnits.map .capability ++ allUnits.map .status ++
    ([0, 1, 2] : List (Fin 3)).flatMap fun k => allUnits.map (.control k)

/-- The item covers a wire address of the space. -/
def MapItem.covers (sp : Space) (addr : Nat) (m : MapItem) : Bool :=
  decide (m.space = sp ∧ m.wire ≤ addr ∧ addr < m.wire + m.words)

/-- The source names this wire address. No other is accessed (R42, 93_implementation_defined.md I17). -/
def namedAddress (sp : Space) (addr : Nat) : Bool := mapItems.any (MapItem.covers sp addr)

/-- The uid of a unit (R42). -/
def uidOf (unit : Fin 16) : Word := BitVec.ofNat 16 (100 + unit.val)

/-- The unit of a uid; outside [100, 115] InvalidUnit, with no address (R43). -/
def unitOf (uid : Word) : Except BlockError (Fin 16) :=
  (readUid uid).map fun n => Fin.ofNat 16 (n - 100)

/-- The uids of the 16 units, in ascending order (R5). -/
def unitIds : List Word := (List.range 16).map fun i => BitVec.ofNat 16 (100 + i)

end Sys2Proof.Machine
end

