-- ==== Sys2Proof/WellFormed.lean ====
section
/-! DEFINITION. Well-formed commands: the operand domains of R72 and of the setpoint (R101). A command
whose operands lie outside them is still executed, and reports an error (R241). -/

namespace Sys2Proof

/-- The values an operand of this kind may take without an error (R72; tenths and hundredths: R101). -/
def OperandKind.admits : OperandKind → Word → Bool
  | .unused, _ => true
  | .word, _ => true
  | .code1, w => decide (w.toNat < 2)
  | .code3, w => decide (w.toNat < 8)
  | .code4, w => decide (w.toNat < 16)
  | .byte, w => decide (w.toNat ≤ 0xFF)
  | .uid, w => decide (100 ≤ w.toNat ∧ w.toNat ≤ 115)
  | .wordNumber, w => decide (1 ≤ w.toNat ∧ w.toNat ≤ 3)
  | .tenths, w => decide (-1279 ≤ w.toInt ∧ w.toInt ≤ 1279)
  | .hundredths, w => decide (-12790 ≤ w.toInt ∧ w.toInt ≤ 12790)
  | .fieldDescriptor, w =>
      decide (w.toNat < 0x100 ∧ w.toNat % 16 + (w.toNat / 16 % 16 + 1) ≤ 16)

/-- Both operands lie in the domain of their kind. -/
def Instr.wellFormed (i : Instr) : Bool :=
  i.aKind.admits i.opA && i.bKind.admits i.opB

end Sys2Proof
end

