-- ==== Sys2Proof/Machine/Assembler.lean ====
section
/-! DEFINITION. The abstract syntax of an assembly line and the pseudo-instructions (R77, R78), as the
lists of commands the host issues. They are host-program macros, not commands of the block. -/

namespace Sys2Proof.Machine

/-- An assembly line `MNEMONIC [a=<value>] [b=<value>]`; the mnemonic stands as its opcode (R77). -/
structure AsmLine where
  op : Byte
  a : Option Int := none
  b : Option Int := none
  deriving DecidableEq, Repr

/-- An operand of an assembly line, by its kind: an omitted operand is 0, an unused one is omitted, and
a negative decimal stands for its 16-bit two's complement where the kind is signed (R77, assumption 16). -/
def assembleOperand : OperandKind → Option Int → Option Word
  | _, none => some 0
  | .unused, some _ => none
  | .tenths, some v => if -0x8000 ≤ v ∧ v ≤ 0xFFFF then some (BitVec.ofInt 16 v) else none
  | .hundredths, some v => if -0x8000 ≤ v ∧ v ≤ 0xFFFF then some (BitVec.ofInt 16 v) else none
  | _, some v => if 0 ≤ v ∧ v ≤ 0xFFFF then some (BitVec.ofInt 16 v) else none

/-- The command of an assembly line, or none where the assembler refuses it (R77). -/
def assemble (l : AsmLine) : Option Instr :=
  match decode l.op 0 0 with
  | .error _ => none
  | .ok i =>
    match assembleOperand i.aKind l.a, assembleOperand i.bKind l.b with
    | some a, some b => (decode l.op a b).toOption
    | _, _ => none

/-- `CRC_BYTE b=x`. -/
def crcByteOf (x : Byte) : Instr := .crcByte 0 (x.zeroExtend 16)

/-- `CRC_FRAME x0, x1, …, xn-1`, each frame from CRC_INIT on (R78, R281). -/
def crcFrame (xs : List Byte) : List Instr :=
  .crcInit 0 0 :: (xs.map crcByteOf ++ [.crcRead 0 0])

/-- The check of a received frame: CRC_INIT, CRC_BYTE for every byte, CRC_CHECK (R127). -/
def crcCheckFrame (ys : List Byte) : List Instr :=
  .crcInit 0 0 :: (ys.map crcByteOf ++ [.crcCheck 0 0])

/-- `CRC_WORD w`: the high byte first (R78, R47). -/
def crcWord (w : Word) : List Instr := (wordBytes w).map crcByteOf

/-- `SETPOINT_C deg`: admitted only where 100·deg is an integer (R78, D14); one that does not fit the
signed operand is refused too (assumption 17). -/
def setpointC (deg : Rat) : Option Instr :=
  if (100 * deg).den = 1 ∧ -0x8000 ≤ (100 * deg).num ∧ (100 * deg).num ≤ 0x7FFF then
    some (.tempEncH 0 (BitVec.ofInt 16 (100 * deg).num))
  else none

/-- `COMPOUND w0, w1, vol, mode, deg`: control words 1, 2 and 3 (R78, R202). -/
def compound (w0 w1 vol mode : Word) (deg : Rat) : Option (List Instr) :=
  (setpointC deg).map fun i => [.w0Compound w0 vol, .w1SetMode w1 mode, i]

/-- `LINKMAP w`: one DEC_LINK per uid in ascending order (R78, R175). -/
def linkMap (w : Word) : List Instr := unitIds.map fun uid => .decLink w uid

end Sys2Proof.Machine
end

