-- ==== Sys2Proof/Machine/Frames.lean ====
section
/-! DEFINITION. The Modbus-RTU frames the block's words and CRCs take part in (R126 to R129, R45), byte
by byte, and what a received frame is worth. The block computes their words and CRCs; the host sends
them (R2). -/

namespace Sys2Proof.Machine

/-- A frame to send: its bytes and then their CRC, low byte first (R126, R48). -/
def withCrc (xs : List Byte) : List Byte := xs ++ [loByte (crcOf xs), hiByte (crcOf xs)]

/-- A received frame is CRC-valid: at least 3 bytes, and the CRC of all but the last two equals
`y[m-2] + 256·y[m-1]` (R127). -/
def frameValid (ys : List Byte) : Bool :=
  decide (3 ≤ ys.length) &&
    match ys.drop (ys.length - 2) with
    | [lo, hi] => (crcOf (ys.take (ys.length - 2))).toNat == lo.toNat + 256 * hi.toNat
    | _ => false

/-- A bus transaction, by the function code it uses (R45). -/
inductive Transaction where
  /-- 0x04: read `count` input registers from wire address `start`. -/
  | readInput (start count : Word)
  /-- 0x06: write one holding register. -/
  | writeSingle (reg value : Word)
  /-- 0x10: write the words from wire address `start` on, as one transaction, atomic on the wire (R51, R287). -/
  | writeMultiple (start : Word) (ws : List Word)
  deriving DecidableEq, Repr

/-- The function code (R45). -/
def Transaction.function : Transaction → Byte
  | .readInput _ _ => 0x04
  | .writeSingle _ _ => 0x06
  | .writeMultiple _ _ => 0x10

/-- The bytes of register words, each high byte first (R47). -/
def wordsBytes (ws : List Word) : List Byte := (ws.map wordBytes).flatten

/-- The byte count field: two for each word (R128). -/
def byteCount (ws : List Word) : Byte := BitVec.ofNat 8 (2 * ws.length)

/-- The word count field: words, not bytes (R128, R287). -/
def wordCount (ws : List Word) : Word := BitVec.ofNat 16 ws.length

/-- The request frame to the slave `addr` (R128). -/
def Transaction.request (addr : Byte) : Transaction → List Byte
  | .readInput start count => withCrc ([addr, 0x04] ++ wordBytes start ++ wordBytes count)
  | .writeSingle reg value => withCrc ([addr, 0x06] ++ wordBytes reg ++ wordBytes value)
  | .writeMultiple start ws =>
      withCrc ([addr, 0x10] ++ wordBytes start ++ wordBytes (wordCount ws) ++ [byteCount ws] ++
        wordsBytes ws)

/-- The response frame of a transaction that succeeds; `ws` are the words a read returns (R128). -/
def Transaction.response (addr : Byte) (ws : List Word) : Transaction → List Byte
  | .readInput _ _ => withCrc ([addr, 0x04, byteCount ws] ++ wordsBytes ws)
  | .writeSingle reg value => withCrc ([addr, 0x06] ++ wordBytes reg ++ wordBytes value)
  | .writeMultiple start vs =>
      withCrc ([addr, 0x10] ++ wordBytes start ++ wordBytes (wordCount vs))

/-- The exception response to a function (R128). -/
def exceptionResponse (addr function code : Byte) : List Byte :=
  withCrc [addr, function ||| 0x80, code]

/-- The request frame to the adapter (R128, P_SLAVE_ADDR). -/
def Transaction.frame (P : Params) (t : Transaction) : List Byte := t.request P.slaveAddr

/-- The space a transaction works on (R41). -/
def Transaction.space : Transaction → Space
  | .readInput _ _ => .input
  | .writeSingle _ _ => .holding
  | .writeMultiple _ _ => .holding

/-- The wire addresses a transaction accesses. -/
def Transaction.addresses : Transaction → List Nat
  | .readInput start count => List.range' start.toNat count.toNat
  | .writeSingle reg _ => [reg.toNat]
  | .writeMultiple start ws => List.range' start.toNat ws.length

/-- A transaction that accesses addresses the source names, and no other (R42, I17). -/
def Transaction.admitted (t : Transaction) : Bool :=
  !t.addresses.isEmpty && t.addresses.all (namedAddress t.space)

/-- What the host gets for one attempt: the bytes received, or none within its timeout (R129). -/
abbrev Answer := Option (List Byte)

/-- Why an attempt failed: the causes of CommunicationError (R129). -/
inductive TransportFailure where
  | timeout
  | crcMismatch
  | malformedFrame
  | shortRead
  deriving DecidableEq, Repr

/-- The bytes of the response to a transaction (R128). -/
def Transaction.responseLength : Transaction → Nat
  | .readInput _ count => 5 + 2 * count.toNat
  | .writeSingle _ _ => 8
  | .writeMultiple _ _ => 8

/-- The words a transaction reads. -/
def Transaction.wordsRead : Transaction → Nat
  | .readInput _ count => count.toNat
  | .writeSingle _ _ => 0
  | .writeMultiple _ _ => 0

/-- The words in data bytes, each high byte first (R47). -/
def wordsOfBytes : List Byte → List Word
  | hi :: lo :: rest => (hi ++ lo) :: wordsOfBytes rest
  | _ => []

/-- The words a response of the right length carries (R128). -/
def Transaction.payload (t : Transaction) (ys : List Byte) : List Word :=
  match t with
  | .readInput _ _ => wordsOfBytes ((ys.drop 3).take (ys.length - 5))
  | .writeSingle _ _ => []
  | .writeMultiple _ _ => []

/-- What the host makes of an answer: the words read, or the transport failure it is (R129). Under 3 bytes
it is malformed (I26). Else, a frame whose CRC_CHECK gives 0 (R127) is a short read when it is shorter
than the response and a CRC mismatch when not, and a CRC-valid frame that is not the response's layout, an
exception response too, is malformed (assumption 14). -/
def receive (addr : Byte) (t : Transaction) : Answer → Except TransportFailure (List Word)
  | none => .error .timeout
  | some ys =>
    if ys.length < 3 then .error .malformedFrame
    else if frameValid ys then
      if (t.payload ys).length = t.wordsRead ∧ ys = t.response addr (t.payload ys) then
        .ok (t.payload ys)
      else .error .malformedFrame
    else if ys.length < t.responseLength then .error .shortRead
    else .error .crcMismatch

end Sys2Proof.Machine
end

