-- ==== Sys2Proof/Machine/UnitView.lean ====
section
/-! DEFINITION. The host's reading of the adapter's register blocks with the block's decoders: bulk reads
(R44), the status block (R160, R161, R176), the capability block (R162) and the link maps (R175). -/

namespace Sys2Proof.Machine

/-- An error the host reports to its caller (R248). -/
inductive HostError where
  /-- An error the block raised for the host's operation (R241, R288). -/
  | block (e : BlockError)
  /-- A block of the wrong number of words (R176). -/
  | preconditionViolation
  /-- A transaction that failed on every attempt, with the last failure (R129, R290). -/
  | communicationError (last : TransportFailure)
  /-- The model's own refusal of a transaction on an address the source does not name (I17,
  assumption 21). No operation and no read of the host runs into it. -/
  | unnamedAddress
  deriving DecidableEq, Repr

/-- A field of a register block: its word, low bit and width. -/
structure FieldPos where
  word : Nat
  lo : Nat
  width : Nat
  deriving DecidableEq, Repr

/-- The width R161 gives a status field: 16 for the room temperature, 4 for an error-code nibble, 1 for a
flag. It gives the master/slave role none: that width is P_STATUS_LAYOUT's. -/
def statusWidth : StatusField → Option Nat
  | .forcedOff => some 1
  | .filterSign => some 1
  | .masterSlave => none
  | .errorCode1 => some 4
  | .errorCode2 => some 4
  | .malfunction => some 1
  | .warning => some 1
  | .roomTemperature => some 16
  | .sensorError => some 1
  | .sensorDataReceived => some 1

/-- Where a status field stands: P_STATUS_LAYOUT, with the width R161 gives where it gives one, kept
inside its word (R161, assumption 6). -/
def statusPos (P : Params) (f : StatusField) : FieldPos :=
  let raw := P.statusLayout f
  let width := (statusWidth f).getD (raw.2.2.val + 1)
  { word := raw.1.val, lo := raw.2.1.val % (17 - width), width := width }

/-- A capability field that is one signed limit byte (R162). -/
def isLimitField : CapField → Bool
  | .coolingUpper => true
  | .coolingLower => true
  | .heatingUpper => true
  | .heatingLower => true
  | _ => false

/-- A capability field that is a step count, whose width no source gives (R162). -/
def isCountField : CapField → Bool
  | .fanDirSteps => true
  | .fanVolSteps => true
  | _ => false

/-- Where a capability field stands: P_CAP_LAYOUT, kept inside its word; a limit is the low or the high
byte of its word, the one its low bit lies in (R162, assumption 6). -/
def capPos (P : Params) (f : CapField) : FieldPos :=
  let raw := P.capLayout f
  let width := if isLimitField f then 8 else if isCountField f then raw.2.2.val + 1 else 1
  { word := raw.1.val
    lo := if isLimitField f then 8 * (raw.2.1.val / 8) else raw.2.1.val % (17 - width)
    width := width }

/-- Where a field of the adapter initial settings word stands: P_INIT_LAYOUT, kept inside the word. The
block has no command for this word (R6, R42, D42; assumption 6). -/
def initPos (P : Params) (f : InitField) : FieldPos :=
  let raw := P.initLayout f
  { word := 0, lo := raw.1.val % (16 - raw.2.val), width := raw.2.val + 1 }

/-- The EXTRACT descriptor of a field: `lo` in bits 3:0, `width - 1` in bits 7:4 (R72, R174). -/
def FieldPos.descriptor (p : FieldPos) : Word := BitVec.ofNat 16 (16 * (p.width - 1) + p.lo)

/-- The command that decodes a status field from its word: TEMP_DEC for the room temperature, EXTRACT
for every other (R161). -/
def statusFieldCommand (P : Params) (f : StatusField) (w : Word) : Instr :=
  match f with
  | .roomTemperature => .tempDec w 0
  | _ => .extract w (statusPos P f).descriptor

/-- The command that decodes a capability field from its word: DEC_SBYTE_LO or DEC_SBYTE_HI for a limit,
EXTRACT for every other (R162). -/
def capFieldCommand (P : Params) (f : CapField) (w : Word) : Instr :=
  if isLimitField f then
    if (capPos P f).lo = 0 then .decSbyteLo w 0 else .decSbyteHi w 0
  else .extract w (capPos P f).descriptor

/-- The setpoint limit that a limit command's RES stands for, in whole degrees Celsius (R162, D20). -/
def limitDegrees (res : Word) : Rat := (s16 res : Rat)

/-- The six words of one unit's status block (R5, R42). -/
structure StatusBlock where
  w0 : Word
  w1 : Word
  w2 : Word
  w3 : Word
  w4 : Word
  w5 : Word
  deriving DecidableEq, Repr

/-- The words of a status block, in order. -/
def StatusBlock.words (b : StatusBlock) : List Word := [b.w0, b.w1, b.w2, b.w3, b.w4, b.w5]

/-- A status block takes exactly 6 words; another count is a PreconditionViolation (R176). -/
def statusBlockOf : List Word → Except HostError StatusBlock
  | [w0, w1, w2, w3, w4, w5] => .ok ⟨w0, w1, w2, w3, w4, w5⟩
  | _ => .error .preconditionViolation

/-- The three words of one unit's capability block (R5, R42). -/
structure CapBlock where
  w0 : Word
  w1 : Word
  w2 : Word
  deriving DecidableEq, Repr

/-- The words of a capability block, in order. -/
def CapBlock.words (b : CapBlock) : List Word := [b.w0, b.w1, b.w2]

/-- A capability block takes exactly 3 words; another count is a PreconditionViolation (R176). -/
def capBlockOf : List Word → Except HostError CapBlock
  | [w0, w1, w2] => .ok ⟨w0, w1, w2⟩
  | _ => .error .preconditionViolation

/-- The commands that decode a status block, word by word (R44, R160, R161). -/
def statusBlockCommands (P : Params) (b : StatusBlock) : List Instr :=
  [.decPower b.w0 0, .decFandir b.w0 0, .decFanvol b.w0 0, .decMode b.w1 0, .decOpstat b.w1 0,
    .tempDec b.w2 0] ++
    ([.forcedOff, .filterSign, .masterSlave, .errorCode1, .errorCode2, .malfunction, .warning,
      .roomTemperature, .sensorError, .sensorDataReceived] : List StatusField).map fun f =>
      statusFieldCommand P f (b.words.getD (statusPos P f).word 0)

/-- The commands that decode a capability block, field by field (R162). -/
def capBlockCommands (P : Params) (b : CapBlock) : List Instr :=
  ([.fanPresent, .coolingPresent, .heatingPresent, .autoPresent, .dryPresent, .fanDirSteps,
    .fanDirPresent, .fanVolSteps, .fanVolPresent, .coolingUpper, .coolingLower, .heatingUpper,
    .heatingLower] : List CapField).map fun f =>
    capFieldCommand P f (b.words.getD (capPos P f).word 0)

/-- The bulk status read split into the 6-word slots of at most `n` units: when fewer than 6 words
remain for a slot, that slot and every later one are absent (R44). -/
def bulkSlots : Nat → List Word → List StatusBlock
  | 0, _ => []
  | n + 1, w0 :: w1 :: w2 :: w3 :: w4 :: w5 :: rest =>
      ⟨w0, w1, w2, w3, w4, w5⟩ :: bulkSlots n rest
  | _ + 1, _ => []

/-- The units a bulk status read holds, each present slot with its uid: slot i is uid 100 + i (R44). -/
def bulkUnits (ws : List Word) : List (Word × StatusBlock) := unitIds.zip (bulkSlots 16 ws)

/-- The commands that decode a bulk status read, word by word, for each unit present (R44). -/
def bulkCommands (P : Params) (ws : List Word) : List (Word × List Instr) :=
  (bulkUnits ws).map fun unit => (unit.1, statusBlockCommands P unit.2)

/-- The flags of a connection or communication map, in ascending uid order: always 16 (R175). -/
def linkFlags (w : Word) : List Bool := (List.range 16).map fun i => w.getLsbD i

end Sys2Proof.Machine
end

