-- ==== Sys2Proof/Machine/Driver.lean ====
section
/-! DEFINITION. The host protocol the block's words take part in (R202, R203, R248, R283 to R291): what
the host sends and how long it waits, with the words the block's commands compute, and what it makes of
the answers. The host is outside the block; the block enforces none of this. -/

namespace Sys2Proof.Machine

/-- What the host does on the bus: a transaction, or a wait of at least so many milliseconds (R284). -/
inductive BusStep where
  | send (t : Transaction)
  | wait (ms : Nat)
  deriving DecidableEq, Repr

/-- SILENT_INTERVAL: 0.5 s, a lower bound (R284). -/
def silentInterval : Nat := 500

/-- The delay between two attempts: 1.5 s, a lower bound (R290). -/
def retryDelay : Nat := 1500

/-- Attempts in all (R290). -/
def retryBudget : Nat := 3

/-! ### Transactions and their answers -/

/-- One transaction under the retry policy, with `n` attempts left: what the bus carries, and the words
read or the last failure. `answers` holds the answer to each attempt; one that is not there is a timeout
(R129, R290, assumption 14). -/
def attempt (P : Params) (t : Transaction) :
    Nat → List Answer → List BusStep × Except TransportFailure (List Word)
  | 0, _ => ([], .error .timeout)
  | n + 1, answers =>
    match receive P.slaveAddr t (answers.headD none) with
    | .ok ws => ([.send t], .ok ws)
    | .error e =>
      if n = 0 then ([.send t], .error e)
      else
        let later := attempt P t n answers.tail
        (.send t :: .wait retryDelay :: later.1, later.2)

/-- A transaction as the host performs it: never on an address the source does not name (I17), else under
the retry policy, whose last failure surfaces as CommunicationError (R290). -/
def transact (P : Params) (t : Transaction) (answers : List Answer) :
    List BusStep × Except HostError (List Word) :=
  if t.admitted then
    let tried := attempt P t retryBudget answers
    (tried.1, tried.2.mapError HostError.communicationError)
  else ([], .error .unnamedAddress)

/-- A sequence run to completion or to retry exhaustion (R289): what the bus carries, and the error that
surfaces. `answers` holds one list of answers a transaction (assumption 14). -/
def runPlan (P : Params) : List BusStep → List (List Answer) → List BusStep × Except HostError Unit
  | [], _ => ([], .ok ())
  | .wait ms :: rest, answers =>
    let later := runPlan P rest answers
    (.wait ms :: later.1, later.2)
  | .send t :: rest, answers =>
    let done := transact P t (answers.headD [])
    match done.2 with
    | .ok _ =>
      let later := runPlan P rest answers.tail
      (done.1 ++ later.1, later.2)
    | .error e => (done.1, .error e)

/-! ### Reads -/

/-- What the host reads (R42, R44). -/
inductive HostRead where
  | adapterStatus
  | connectionMap
  | communicationMap
  | unitStatus (uid : Word)
  | unitCapability (uid : Word)
  | bulkStatus
  deriving DecidableEq, Repr

/-- The transaction that reads an item of the address map whole (R42, R45). -/
def MapItem.read (m : MapItem) : Transaction :=
  .readInput (BitVec.ofNat 16 m.wire) (BitVec.ofNat 16 m.words)

/-- The transaction of a read. The uid is checked first: a bad one is InvalidUnit (R43, R248). -/
def HostRead.transaction : HostRead → Except BlockError Transaction
  | .adapterStatus => .ok MapItem.adapterStatus.read
  | .connectionMap => .ok MapItem.connectionMap.read
  | .communicationMap => .ok MapItem.communicationMap.read
  | .unitStatus uid => (unitOf uid).map fun unit => (MapItem.status unit).read
  | .unitCapability uid => (unitOf uid).map fun unit => (MapItem.capability unit).read
  | .bulkStatus => .ok MapItem.bulkStatus.read

/-- A read as the host performs it: with a bad uid nothing is sent (R248). -/
def runRead (P : Params) (r : HostRead) (answers : List Answer) :
    List BusStep × Except HostError (List Word) :=
  match r.transaction with
  | .error e => ([], .error (.block e))
  | .ok t => transact P t answers

/-- A unit's status block, or the error of the read (R176, R248). -/
def readStatusBlock (P : Params) (uid : Word) (answers : List Answer) :
    List BusStep × Except HostError StatusBlock :=
  let done := runRead P (.unitStatus uid) answers
  (done.1, done.2.bind statusBlockOf)

/-- A unit's capability block, or the error of the read (R176, R248). -/
def readCapBlock (P : Params) (uid : Word) (answers : List Answer) :
    List BusStep × Except HostError CapBlock :=
  let done := runRead P (.unitCapability uid) answers
  (done.1, done.2.bind capBlockOf)

/-- The bulk status read, and the units it holds (R44). -/
def readBulkStatus (P : Params) (answers : List Answer) :
    List BusStep × Except HostError (List (Word × StatusBlock)) :=
  let done := runRead P .bulkStatus answers
  (done.1, done.2.map bulkUnits)

/-! ### Operations -/

/-- The read of a unit's status block: 6 words (R283). -/
def statusRead (start : Word) : BusStep := .send (.readInput start 6)

/-- The prime and its silent interval (R283, R284, R291). No rule gives the sequence without a prime: that
P_PRIME_REQUIRED = false drops the two and nothing else is the model's choice (assumption 22). -/
def primeSteps (P : Params) (t : Transaction) : List BusStep :=
  if P.primeRequired then [.send t, .wait silentInterval] else []

/-- A sequence with the read of the unit's status block before it (R283, R285, R286). -/
def withStatusRead (uid : Word) (writes : Except BlockError (List BusStep)) :
    Except BlockError (List BusStep) := do
  let start ← addrStatusWord uid
  let steps ← writes
  return statusRead start :: steps

/-- A single-field change of control word `k` after the read: the prime that rewrites the current word,
the wait and the commit (R283). The uid check and the encoder's own check come before any of it: on an
error nothing is sent (R288). `status` is what the read returns. -/
def setFieldWrites (P : Params) (uid k : Word) (current : StatusBlock → Word)
    (mutate : Word → Except BlockError Word) (status : StatusBlock) :
    Except BlockError (List BusStep) := do
  let reg ← addrCtrlWord k uid
  let _ ← mutate 0
  let value ← mutate (current status)
  return primeSteps P (.writeSingle reg (current status)) ++ [.send (.writeSingle reg value)]

/-- A single-field change, with its read (R283). -/
def setFieldPlan (P : Params) (uid k : Word) (current : StatusBlock → Word)
    (mutate : Word → Except BlockError Word) (status : StatusBlock) :
    Except BlockError (List BusStep) :=
  withStatusRead uid (setFieldWrites P uid k current mutate status)

/-- The filter-sign reset after the read: prime, wait, write the pattern, wait, write the cleared word
(R286). -/
def filterResetWrites (P : Params) (uid : Word) (status : StatusBlock) :
    Except BlockError (List BusStep) := do
  let reg ← addrCtrlWord 2 uid
  return primeSteps P (.writeSingle reg status.w1) ++
    [.send (.writeSingle reg (filterSetWord status.w1)), .wait silentInterval,
      .send (.writeSingle reg (filterClrWord status.w1))]

/-- The compound write of mode, fan volume and setpoint after the read: one 0x10 transaction of 3 words
primes, and one commits (R285, R287). -/
def compoundWrites (P : Params) (uid vol mode hundredths : Word) (status : StatusBlock) :
    Except BlockError (List BusStep) := do
  let reg ← addrCtrlWord 1 uid
  let w0 ← compoundWord status.w0 vol
  let w1 ← setModeWord status.w1 mode
  let w2 ← tempEncHWord P.roundTie hundredths
  return primeSteps P (.writeMultiple reg [status.w0, status.w1, status.w2]) ++
    [.send (.writeMultiple reg [w0, w1, w2])]

/-- The source's operations on a unit (R202). -/
inductive HostOp where
  /-- Power on or off, or toggled when the target is omitted. -/
  | power (target : Option Word)
  | fanDirection (code : Word)
  | fanVolume (code : Word)
  | mode (code : Word)
  | filterSignReset
  | operatingStatus (code : Word)
  | setpointHundredths (c : Word)
  | setpointTenths (t : Word)
  | compound (vol mode hundredths : Word)
  deriving DecidableEq, Repr

/-- What the host does for an operation on unit `uid` after its read, when the status block reads as
`status` (R202, R283 to R288). -/
def HostOp.writes (P : Params) (uid : Word) (status : StatusBlock) :
    HostOp → Except BlockError (List BusStep)
  | .power (some b) => setFieldWrites P uid 1 StatusBlock.w0 (fun w => setPowerWord w b) status
  | .power none => setFieldWrites P uid 1 StatusBlock.w0 (fun w => .ok (togglePowerWord w)) status
  | .fanDirection b => setFieldWrites P uid 1 StatusBlock.w0 (fun w => setFanDirWord w b) status
  | .fanVolume b => setFieldWrites P uid 1 StatusBlock.w0 (fun w => setFanVolWord w b) status
  | .mode b => setFieldWrites P uid 2 StatusBlock.w1 (fun w => setModeWord w b) status
  | .filterSignReset => filterResetWrites P uid status
  | .operatingStatus b => setFieldWrites P uid 2 StatusBlock.w1 (fun w => setOpStatWord w b) status
  | .setpointHundredths c =>
      setFieldWrites P uid 3 StatusBlock.w2 (fun _ => tempEncHWord P.roundTie c) status
  | .setpointTenths t => setFieldWrites P uid 3 StatusBlock.w2 (fun _ => tempEncTWord t) status
  | .compound vol m c => compoundWrites P uid vol m c status

/-- What the host does for an operation, its read first (R202, R283 to R288). -/
def HostOp.plan (P : Params) (uid : Word) (status : StatusBlock) (op : HostOp) :
    Except BlockError (List BusStep) :=
  withStatusRead uid (op.writes P uid status)

/-- A status block of zeros, for the check of an encoder before the read (R288). -/
def StatusBlock.zero : StatusBlock := ⟨0, 0, 0, 0, 0, 0⟩

/-- An operation as the host performs it. It checks every argument first, the encoders with `a` = 0, and
on an error sends nothing (R288); then it reads the status block, and on an error ends there (R289, R290);
then it does the rest. -/
def runOp (P : Params) (uid : Word) (op : HostOp) (answers : List (List Answer)) :
    List BusStep × Except HostError Unit :=
  match op.plan P uid StatusBlock.zero with
  | .error e => ([], .error (.block e))
  | .ok _ =>
    let read := readStatusBlock P uid (answers.headD [])
    match read.2 with
    | .error e => (read.1, .error e)
    | .ok status =>
      match op.writes P uid status with
      | .error e => (read.1, .error (.block e))
      | .ok steps =>
        let later := runPlan P steps answers.tail
        (read.1 ++ later.1, later.2)

/-- The commands an operation issues to the block, beside its ADDR commands (R202). -/
def HostOp.commands (status : StatusBlock) : HostOp → List Instr
  | .power (some b) => [.w0SetPower status.w0 b]
  | .power none => [.w0TogglePower status.w0 0]
  | .fanDirection b => [.w0SetFandir status.w0 b]
  | .fanVolume b => [.w0SetFanvol status.w0 b]
  | .mode b => [.w1SetMode status.w1 b]
  | .filterSignReset => [.w1FilterSet status.w1 0, .w1FilterClr status.w1 0]
  | .operatingStatus b => [.w1SetOpstat status.w1 b]
  | .setpointHundredths c => [.tempEncH 0 c]
  | .setpointTenths t => [.tempEncT 0 t]
  | .compound vol m c =>
      [.w0Compound status.w0 vol, .w1SetMode status.w1 m, .tempEncH 0 c]

end Sys2Proof.Machine
end

