-- ==== Sys2Proof/Machine/Parametric.lean ====
section
/-! DEFINITION. The block with the parameters of R6 as an argument. `exec`, `present` and `step` are these
at `Config.params`. -/

namespace Sys2Proof.Machine

/-- A command at given parameters. Three commands read one: TEMP_ENC_H (R104), DEC_FANDIR (R166) and
DEC_OPSTAT (R169). -/
def execWith (P : Params) (i : Instr) (s : State) : Host.Outcome State Fault Refusal :=
  match i with
  | .tempEncH _ b => execTempEncHWith P.roundTie b s
  | .decFandir a _ => execDecFandirWith P.fanDirLabel5 P.fanDirLabel6 a s
  | .decOpstat a _ => execDecOpstatWith P.opStatLabel a s
  | other => exec other s

/-- One presentation of the inputs at given parameters (R28, R30, R75, R280). -/
def presentWith (P : Params) (p : HostInput) (s : State) : Host.Outcome State Fault Refusal :=
  if p.rst then .next (resetRegisters s)
  else match decode p.op p.a p.b with
    | .ok i => execWith P i s
    | .error _ => execIllegalOp s

/-- One step at given parameters (R30). -/
def stepWith (P : Params) (s : State) : Host.Outcome State Fault Refusal :=
  match s.inputs with
  | [] => .refused .noCommand
  | p :: rest => presentWith P p { s with inputs := rest }

end Sys2Proof.Machine
end

