-- ==== Sys2Proof/Safety.lean ====
section
/-! DEFINITION. What counts as a legal state and a clean command, and runs over what the host presents, in
the terms claims use. -/

namespace Sys2Proof.Machine

/-- The invariant of STATUS (R23 to R27): the reserved bits are 0, ERR is one of the codes commands
write (0 to 3), an error leaves STK at 1, and a labelled decode reports no error. -/
abbrev State.Inv (s : State) : Prop :=
  statusReserved s.status = 0 ∧ (statusErr s.status).toNat ≤ 3 ∧
    (statusErr s.status ≠ 0 → statusStk s.status = true) ∧
    (statusLbl s.status = true → statusErr s.status = 0)

/-- The command these inputs present raises an error: its opcode is not assigned, or an operand lies
outside its domain (R241). -/
def HostInput.fails (p : HostInput) : Bool :=
  match decode p.op p.a p.b with
  | .ok i => !i.wellFormed
  | .error _ => true

/-- The machine run over inputs the host presents in this order, from the registers of `s`. -/
def runInputs (s : State) (ps : List HostInput) : Host.Outcome State Fault Refusal :=
  Host.Core.run Sys2Proof.core ps.length ({ s with inputs := ps } : State)

/-- The machine run over commands the host issues in this order. -/
def runCommands (s : State) (is : List Instr) : Host.Outcome State Fault Refusal :=
  runInputs s (is.map inputOf)

end Sys2Proof.Machine
end

