-- ==== Sys2Proof/Certificates/Slice0/Obligations.lean ====
section
/-! DEFINITION. The statements for the provers, from the numbered rules of the spec. The words they
share stand first, in terms of bits and numbers and not of the model's own STATUS operations. -/

namespace Sys2Proof.Claims

open Sys2Proof.Machine

/-- STATUS reads as ERR = `err`, STK = `stk`, LBL = `lbl`, and bits [15:5] as in `before`. -/
def StatusReads (st : Word) (err : Nat) (stk lbl : Bool) (before : Word) : Prop :=
  st.toNat % 8 = err ∧ st.getLsbD 3 = stk ∧ st.getLsbD 4 = lbl ∧ st.toNat / 32 = before.toNat / 32

/-- The outcome of a command run in `s` is that it completes with RES = `v` and LBL = `lbl`: ERR is NONE,
and CRC, STK, STATUS[15:5] and what the host presents later are unchanged. -/
def Delivered (o : Host.Outcome State Fault Refusal) (s : State) (v : Word) (lbl : Bool) : Prop :=
  ∃ t, o = .next t ∧ t.res = v ∧ t.crc = s.crc ∧ t.inputs = s.inputs ∧
    StatusReads t.status 0 (s.status.getLsbD 3) lbl s.status

/-- The outcome of a command run in `s` is that it completes with error `code` and exactly the effects of
R242. -/
def Raised (o : Host.Outcome State Fault Refusal) (s : State) (code : Nat) : Prop :=
  ∃ t, o = .next t ∧ t.res = s.res ∧ t.crc = s.crc ∧ t.inputs = s.inputs ∧
    StatusReads t.status code true false s.status

/-- The command completes and delivers `v`. -/
abbrev Delivers (i : Instr) (s : State) (v : Word) (lbl : Bool) : Prop := Delivered (exec i s) s v lbl

/-- The command completes with error `code`. -/
abbrev Raises (i : Instr) (s : State) (code : Nat) : Prop := Raised (exec i s) s code

/-- The command completes with CRC = `c`; RES, STK, STATUS[15:5] and later inputs are unchanged. -/
def SetsCrc (i : Instr) (s : State) (c : Word) : Prop :=
  ∃ t, exec i s = .next t ∧ t.crc = c ∧ t.res = s.res ∧ t.inputs = s.inputs ∧
    StatusReads t.status 0 (s.status.getLsbD 3) false s.status

/-- The uid is that of one of the 16 units (R5). -/
def IsUid (b : Word) : Prop := 100 ≤ b.toNat ∧ b.toNat ≤ 115

/-- The opcodes of R75, as it lists them. -/
def unassigned (op : Nat) : Bool :=
  op == 0x00 || (0x05 ≤ op && op ≤ 0x0F) || (0x15 ≤ op && op ≤ 0x1F) || (0x24 ≤ op && op ≤ 0x2F) ||
    (0x33 ≤ op && op ≤ 0x3F) || (0x4A ≤ op && op ≤ 0x4F) || (0x53 ≤ op && op ≤ 0x7E) ||
    (0x80 ≤ op && op ≤ 0xFF)

/-- The labelled decoders' LBL (R163, R166 to R169); every other command's is 0 (R26). -/
def labelOf : Instr → Bool
  | .decFandir a _ =>
      let code := a.toNat / 256 % 8
      decide (code ∈ [0, 1, 2, 3, 4, 7]) || (code == 5 && Config.fanDirLabel5 == .stop) ||
        (code == 6 && Config.fanDirLabel6 == .stop)
  | .decFanvol a _ => decide (a.toNat / 4096 % 8 ∈ [1, 3, 5])
  | .decMode a _ => decide (a.toNat % 16 ∈ [0, 1, 2, 3, 7])
  | .decOpstat a _ => (Config.opStatLabel (BitVec.ofNat 4 (a.toNat / 256 % 16))).isSome
  | _ => false

/-- The width of the field a code operand is for (R72). -/
def codeWidth : OperandKind → Option Nat
  | .code1 => some 1
  | .code3 => some 3
  | .code4 => some 4
  | _ => none

/-- The transactions of a sequence, in order. -/
def sends (l : List BusStep) : List Transaction :=
  l.filterMap fun
    | .send t => some t
    | .wait _ => none

/-- The answer is a good response to the transaction. -/
def Good (P : Params) (t : Transaction) (answer : Answer) : Prop :=
  ∃ ws, receive P.slaveAddr t answer = .ok ws

/-- The transaction is answered on one of its 3 attempts. -/
def Answered (P : Params) (t : Transaction) (answers : List Answer) : Prop :=
  ∃ k, k < 3 ∧ Good P t (answers.getD k none)

/-- Each of the transactions is answered, `answers` holding one list a transaction. -/
def AllAnswered (P : Params) : List Transaction → List (List Answer) → Prop
  | [], _ => True
  | t :: ts, answers => Answered P t (answers.headD []) ∧ AllAnswered P ts answers.tail

/-- What the bus carries of a sequence that is not cut short: its waits and, for each transaction, its
attempts. -/
def carried (P : Params) : List BusStep → List (List Answer) → List BusStep
  | [], _ => []
  | .wait ms :: rest, answers => .wait ms :: carried P rest answers
  | .send t :: rest, answers =>
    (attempt P t retryBudget (answers.headD [])).1 ++ carried P rest answers.tail

/-- R202, for the operations on one field: the status word read, and the encoder command that makes the
control word after it from that word. -/
def singleField : HostOp → Option (Nat × (Word → Instr))
  | .power (some b) => some (0, fun w => .w0SetPower w b)
  | .power none => some (0, fun w => .w0TogglePower w 0)
  | .fanDirection b => some (0, fun w => .w0SetFandir w b)
  | .fanVolume b => some (0, fun w => .w0SetFanvol w b)
  | .mode b => some (1, fun w => .w1SetMode w b)
  | .operatingStatus b => some (1, fun w => .w1SetOpstat w b)
  | .setpointHundredths c => some (2, fun _ => .tempEncH 0 c)
  | .setpointTenths t => some (2, fun _ => .tempEncT 0 t)
  | .filterSignReset => none
  | .compound _ _ _ => none

/-- `start` and `reg` are the wire addresses of the unit's status block and of its control word `j + 1`. -/
def UnitAddresses (uid : Word) (j : Nat) (start reg : Word) : Prop :=
  start.toNat = 2000 + 6 * (uid.toNat - 100) ∧ reg.toNat = 2000 + j + 3 * (uid.toNat - 100)

/-- R161: 1 for a flag, 4 for an error-code nibble, 16 for the room temperature; the master/slave role has
P_STATUS_LAYOUT's own width. -/
def statusFieldWidth (P : Params) : StatusField → Nat
  | .forcedOff | .filterSign | .malfunction | .warning | .sensorError | .sensorDataReceived => 1
  | .errorCode1 | .errorCode2 => 4
  | .roomTemperature => 16
  | .masterSlave => (P.statusLayout .masterSlave).2.2.val + 1

/-- R162: none for a limit byte. A step count has P_CAP_LAYOUT's own width and a presence flag width 1
(assumption 6). -/
def capFieldWidth (P : Params) : CapField → Option Nat
  | .fanPresent | .coolingPresent | .heatingPresent | .autoPresent | .dryPresent | .fanDirPresent
  | .fanVolPresent => some 1
  | .fanDirSteps => some ((P.capLayout .fanDirSteps).2.2.val + 1)
  | .fanVolSteps => some ((P.capLayout .fanVolSteps).2.2.val + 1)
  | .coolingUpper | .coolingLower | .heatingUpper | .heatingLower => none

/-- Where a field with the layout's low bit `layoutLo` stands: there, wherever it fits in the word, and else
still inside the word (assumption 6). -/
def Placed (layoutLo width lo : Nat) : Prop := lo + width ≤ 16 ∧ (layoutLo + width ≤ 16 → lo = layoutLo)

end Sys2Proof.Claims

open Sys2Proof Sys2Proof.Machine Sys2Proof.Claims

/-! ### Encoding and stepping -/

/-- A packed word decodes to a command exactly when it is that command's encoding (R70, R74). -/
def Obligations.DecodeEncodeAgree : Prop :=
  ∀ (w : CmdWord) (i : Instr), decodeWord w = .ok i ↔ i.encode = w

/-- R75: the 226 opcodes it lists are illegal and no other is, and a step that presents one raises
ILLEGAL_OP and writes neither CRC nor RES. -/
def Obligations.UnassignedOpcodesAreIllegal : Prop :=
  (∀ (op : Byte) (a b : Word), (∃ e, decode op a b = .error e) ↔ unassigned op.toNat = true) ∧
  ((List.range 256).filter unassigned).length = 226 ∧
  ∀ (s : State) (p : HostInput) (rest : List HostInput),
    s.inputs = p :: rest → p.rst = false → unassigned p.op.toNat = true →
    ∃ t, step s = .next t ∧ t.res = s.res ∧ t.crc = s.crc ∧ t.inputs = rest ∧
      StatusReads t.status 1 true false s.status

/-- Command words of the spec's programs P1 to P5, one per family, decode to what they stand for. -/
def Obligations.SpecWordsDecode : Prop :=
  decodeWord 0x02000000D8 = .ok (.crcByte 0 0xD8) ∧
  decodeWord 0x1400000005 = .ok (.w0Compound 0 5) ∧
  decodeWord 0x2000010002 = .ok (.w1SetMode 1 2) ∧
  decodeWord 0x3100000960 = .ok (.tempEncH 0 2400) ∧
  decodeWord 0x4153610000 = .ok (.decFandir 0x5361 0) ∧
  decodeWord 0x5200030066 = .ok (.addrCtrl 3 102) ∧
  decodeWord 0x7F00000000 = .ok (.clrErr 0 0) ∧
  decodeWord 0x6000000000 = .error (.illegalOp 0x60)

/-- A step runs the command its inputs present, and takes those inputs (R28, R30). -/
def Obligations.StepRunsPresentedCommand : Prop :=
  ∀ (s : State) (p : HostInput) (rest : List HostInput) (i : Instr),
    s.inputs = p :: rest → p.rst = false → decode p.op p.a p.b = .ok i →
    step s = exec i { s with inputs := rest }

/-- R34: the values after reset. -/
def Obligations.ResetValues : Prop :=
  State.reset.crc = 0xFFFF ∧ State.reset.res = 0x0000 ∧
    State.reset.status.toNat % 8 = 0 ∧ State.reset.status.getLsbD 3 = false ∧
    State.reset.status.getLsbD 4 = false ∧ State.reset.status.toNat / 32 = 0

/-- R280: a step with `rst` asserted sets every register to its reset value, from any state, and runs
no command, whatever the other inputs hold. That the command presented with `rst` is dropped (the clause
on `inputs`) is the model's choice: assumption 7. -/
def Obligations.ResetInputSetsEveryRegister : Prop :=
  ∀ (s : State) (p : HostInput) (rest : List HostInput), s.inputs = p :: rest → p.rst = true →
    ∃ t, step s = .next t ∧ t.crc = 0xFFFF ∧ t.res = 0x0000 ∧ t.status = 0x0000 ∧ t.inputs = rest

/-- The state after reset meets the STATUS invariant. -/
def Obligations.ResetMeetsStatusInvariant : Prop := State.reset.Inv

/-- Every step keeps the STATUS invariant: reserved bits 0, ERR one of the codes 0 to 3, an error
leaves STK at 1, and a labelled decode reports no error (R23 to R27). -/
def Obligations.StepKeepsStatusInvariant : Prop :=
  ∀ s t : State, s.Inv → step s = .next t → t.Inv

/-- R27: no step writes a 1 to STATUS[15:5], and they read as 0 in every state reached from reset,
whatever the host presents. -/
def Obligations.ReservedStatusBitsReadZero : Prop :=
  (∀ s t : State, step s = .next t →
    t.status.toNat / 32 = s.status.toNat / 32 ∨ t.status.toNat / 32 = 0) ∧
  ∀ (ps : List HostInput) (t : State), runInputs State.reset ps = .next t →
    t.status.toNat / 32 = 0

/-! ### The CRC -/

/-- R122: CRC_INIT sets CRC to 0xFFFF and nothing else. -/
def Obligations.CrcInitStartsNewCrc : Prop :=
  ∀ (a b : Word) (s : State), SetsCrc (.crcInit a b) s 0xFFFF

/-- R123: CRC_BYTE folds the byte `b[7:0]` into CRC; with `b[15:8]` not 0 it raises INVALID_ARGUMENT and
CRC is unchanged. -/
def Obligations.CrcByteFoldsOneByte : Prop :=
  ∀ (a b : Word) (s : State),
    (b.toNat ≤ 0xFF → SetsCrc (.crcByte a b) s (crcUpdate s.crc (BitVec.ofNat 8 b.toNat))) ∧
    (0xFF < b.toNat → Raises (.crcByte a b) s 3)

/-- R124, R125: CRC_READ copies CRC into RES; CRC_CHECK delivers 1 when CRC is 0 and 0 otherwise, and a
mismatch is no error. -/
def Obligations.CrcReadAndCheckDeliver : Prop :=
  ∀ (a b : Word) (s : State),
    Delivers (.crcRead a b) s s.crc false ∧
    (s.crc = 0 → Delivers (.crcCheck a b) s 1 false) ∧
    (s.crc ≠ 0 → Delivers (.crcCheck a b) s 0 false)

/-- The check value of CRC-16/MODBUS, the CRC of the empty sequence, and the classic frame's CRC. -/
def Obligations.CrcKnownValues : Prop :=
  crcOf [0x31, 0x32, 0x33, 0x34, 0x35, 0x36, 0x37, 0x38, 0x39] = 0x4B37 ∧
  crcOf [] = 0xFFFF ∧ crcOf [0x01, 0x03, 0x00, 0x00, 0x00, 0x0A] = 0xCDC5

/-- The byte update is linear over bitwise exclusive or, as the remainder by a polynomial is. -/
def Obligations.CrcUpdateIsLinear : Prop :=
  ∀ (c d : Word) (x y : Byte),
    crcUpdate (c ^^^ d) (x ^^^ y) = crcUpdate c x ^^^ crcUpdate d y

/-- A frame followed by its own CRC, low byte first, leaves the residue 0 and is valid. -/
def Obligations.OwnCrcLeavesZeroResidue : Prop :=
  ∀ xs : List Byte, crcOf (withCrc xs) = 0 ∧ (1 ≤ xs.length → frameValid (withCrc xs) = true)

/-- R127: CRC_INIT, CRC_BYTE for every received byte, CRC_CHECK gives 1 exactly for a CRC-valid frame,
from any state of the block; that is when the CRC of the whole frame is 0; and the two bytes that bring
a fixed CRC state to 0 are unique. The spec marks R127 as derived. -/
def Obligations.CrcCheckDecidesFrameValidity : Prop :=
  (∀ (s : State) (ys : List Byte), 3 ≤ ys.length →
    (frameValid ys = true ↔ crcOf ys = 0) ∧
    ∃ t, runCommands s (crcCheckFrame ys) = .next t ∧
      t.res = (if frameValid ys then 1 else 0)) ∧
  ∀ (c : Word) (x y x' y' : Byte), crcUpdate (crcUpdate c x) y = 0 →
    crcUpdate (crcUpdate c x') y' = 0 → x = x' ∧ y = y'

/-- The CRC_FRAME macro (R78) leaves the frame's CRC in RES and in CRC, from any state of the block. -/
def Obligations.CrcFrameMacroDeliversCrc : Prop :=
  ∀ (s : State) (xs : List Byte), ∃ t, runCommands s (crcFrame xs) = .next t ∧
    t.res = crcOf xs ∧ t.crc = crcOf xs ∧ t.inputs = [] ∧
    StatusReads t.status 0 (s.status.getLsbD 3) false s.status

/-! ### Addresses -/

/-- R140 to R142: the wire addresses, INVALID_UNIT for a bad uid, and for ADDR_CTRL INVALID_ARGUMENT for
a bad word number of a good uid. -/
def Obligations.AddressCommandsDeliverWireAddresses : Prop :=
  ∀ (a b : Word) (s : State),
    (IsUid b →
      Delivers (.addrStatus a b) s (BitVec.ofNat 16 (2000 + 6 * (b.toNat - 100))) false ∧
      Delivers (.addrCap a b) s (BitVec.ofNat 16 (1000 + 3 * (b.toNat - 100))) false ∧
      (1 ≤ a.toNat ∧ a.toNat ≤ 3 →
        Delivers (.addrCtrl a b) s (BitVec.ofNat 16 (1999 + a.toNat + 3 * (b.toNat - 100))) false) ∧
      (a.toNat < 1 ∨ 3 < a.toNat → Raises (.addrCtrl a b) s 3)) ∧
    (¬ IsUid b → Raises (.addrStatus a b) s 2 ∧ Raises (.addrCap a b) s 2 ∧
      Raises (.addrCtrl a b) s 2)

/-- R143: each address function is strictly increasing in uid, ADDR_CTRL in k too and onto [2000, 2047]
over all (uid, k) without repeats, and the blocks of distinct units do not overlap. The spec marks R143
as derived. -/
def Obligations.AddressesIncreaseWithoutOverlap : Prop :=
  ∀ s : State,
    (∀ a b b' v v' : Word, b.toNat < b'.toNat →
      (Delivers (.addrStatus a b) s v false → Delivers (.addrStatus a b') s v' false →
        v.toNat + 6 ≤ v'.toNat) ∧
      (Delivers (.addrCap a b) s v false → Delivers (.addrCap a b') s v' false →
        v.toNat + 3 ≤ v'.toNat) ∧
      (Delivers (.addrCtrl a b) s v false → Delivers (.addrCtrl a b') s v' false →
        v.toNat < v'.toNat)) ∧
    (∀ a a' b v v' : Word, a.toNat < a'.toNat → Delivers (.addrCtrl a b) s v false →
      Delivers (.addrCtrl a' b) s v' false → v.toNat < v'.toNat) ∧
    (∀ a a' b b' v : Word, Delivers (.addrCtrl a b) s v false →
      Delivers (.addrCtrl a' b') s v false → a = a' ∧ b = b') ∧
    ∀ v : Word, (∃ a b, Delivers (.addrCtrl a b) s v false) ↔ 2000 ≤ v.toNat ∧ v.toNat ≤ 2047

/-- The ADDR commands deliver the wire addresses of the address map: its physical addresses less the base
of their space (R41, R42). -/
def Obligations.AddressCommandsMatchAddressMap : Prop :=
  ∀ (a b : Word) (s : State) (unit : Fin 16) (k : Fin 3), b = uidOf unit → a.toNat = k.val + 1 →
    unitOf b = .ok unit ∧
    (∃ v, Delivers (.addrStatus a b) s v false ∧ v.toNat = (MapItem.status unit).wire ∧
      v.toNat + 30001 = 32001 + 6 * (b.toNat - 100)) ∧
    (∃ v, Delivers (.addrCap a b) s v false ∧ v.toNat = (MapItem.capability unit).wire ∧
      v.toNat + 30001 = 31001 + 3 * (b.toNat - 100)) ∧
    ∃ v, Delivers (.addrCtrl a b) s v false ∧ v.toNat = (MapItem.control k unit).wire ∧
      v.toNat + 40001 = 42000 + a.toNat + 3 * (b.toNat - 100)

/-- What is accessed: the named addresses are those of the address map (R42); every transaction of every
operation and read of the host accesses named addresses alone; and one that does not is not sent (I17;
that it is then refused under a name is the model's choice, assumption 21). The plans of operations at
P_PRIME_REQUIRED = false, which are among these, are the model's choice too (assumption 22). -/
def Obligations.AccessesStayOnNamedAddresses : Prop :=
  (∀ addr : Nat,
    (namedAddress .input addr = true ↔ addr = 0 ∨ addr = 1 ∨ addr = 5 ∨
      (1000 ≤ addr ∧ addr ≤ 1047) ∨ (2000 ≤ addr ∧ addr ≤ 2095)) ∧
    (namedAddress .holding addr = true ↔ addr = 0 ∨ (2000 ≤ addr ∧ addr ≤ 2047))) ∧
  (∀ (P : Params) (uid : Word) (status : StatusBlock) (op : HostOp) (plan : List BusStep),
    op.plan P uid status = .ok plan → ∀ t ∈ sends plan, t.admitted = true) ∧
  (∀ (r : HostRead) (t : Transaction), r.transaction = .ok t → t.admitted = true) ∧
  ∀ (P : Params) (t : Transaction) (answers : List Answer),
    (∃ addr ∈ t.addresses, namedAddress t.space addr = false) →
    transact P t answers = ([], .error .unnamedAddress)

/-! ### Temperature -/

/-- TEMP_ENC_T checks the setpoint domain and delivers `b` bit for bit (R103). The rejected range is
stated by R103's check and corner cases, 0x0500..0xFB00; its "that is" clause ends at 0xFAFF
(assumption 18). -/
def Obligations.TempEncTChecksDomain : Prop :=
  ∀ (a b : Word) (s : State),
    (b.toInt.natAbs ≤ 1279 → Delivers (.tempEncT a b) s b false) ∧
    (1279 < b.toInt.natAbs → Raises (.tempEncT a b) s 3) ∧
    (1279 < b.toInt.natAbs ↔ 0x0500 ≤ b.toNat ∧ b.toNat ≤ 0xFB00)

/-- TEMP_ENC_H checks the exact input, then rounds to tenths by P_ROUND_TIE, and the result lies in the
setpoint domain (R104): at this machine's P_ROUND_TIE and at every value of the parameter. The second
part says that `exec` and `execWith` run it at their parameter; no clause rests on assumption 4. -/
def Obligations.TempEncHRoundsToTenths : Prop :=
  (∀ (tie : RoundTie) (b : Word) (s : State),
    (b.toInt.natAbs ≤ 12790 → ∃ v, Delivered (execTempEncHWith tie b s) s v false ∧
      v.toInt = roundDiv10 tie b.toInt ∧ v.toInt.natAbs ≤ 1279) ∧
    (12790 < b.toInt.natAbs → Raised (execTempEncHWith tie b s) s 3)) ∧
  (∀ (a b : Word) (s : State),
    (b.toInt.natAbs ≤ 12790 → ∃ v, Delivers (.tempEncH a b) s v false ∧
      v.toInt = roundDiv10 Config.roundTie b.toInt ∧ v.toInt.natAbs ≤ 1279) ∧
    (12790 < b.toInt.natAbs → Raises (.tempEncH a b) s 3)) ∧
  ∀ (P : Params) (a b : Word) (s : State),
    execWith P (.tempEncH a b) s = execTempEncHWith P.roundTie b s

/-- R102: roundDiv10 gives the integer nearest to c/10, and breaks a tie by P_ROUND_TIE, for both values
of the parameter. That this machine's P_ROUND_TIE is the default HALF_EVEN is assumption 4. -/
def Obligations.RoundingIsNearestWithTieRule : Prop :=
  (∀ (tie : RoundTie) (c : Int),
    (c % 10 ≠ 5 → (10 * roundDiv10 tie c - c).natAbs < 5) ∧
    (c % 10 = 5 → (10 * roundDiv10 tie c - c).natAbs = 5 ∧
      (tie = .halfEven → roundDiv10 tie c % 2 = 0) ∧
      (tie = .halfAway → c.natAbs < (10 * roundDiv10 tie c).natAbs))) ∧
  Config.roundTie = .halfEven

/-- R105: TEMP_DEC delivers the word itself, with no domain check. -/
def Obligations.TempDecDeliversTheWord : Prop :=
  ∀ (a b : Word) (s : State), Delivers (.tempDec a b) s a false

/-- The value a temperature word stands for, in the source's two cases (R100). -/
def Obligations.TempValueIsSignedTenths : Prop :=
  ∀ w : Word,
    (w.toNat ≤ 0x7FFF → tempValue w = (w.toNat : Rat) / 10) ∧
    (0x7FFF < w.toNat → tempValue w = -((0x10000 - w.toNat : Int) : Rat) / 10)

/-- R106: encoding a setpoint in the domain succeeds and reads back as the setpoint; for hundredths, when
they are whole tenths. The spec marks R106 as derived. -/
def Obligations.SetpointRoundTrip : Prop :=
  ∀ (a b : Word) (s : State),
    (b.toInt.natAbs ≤ 1279 →
      ∃ r, Delivers (.tempEncT a b) s r false ∧ s16 r = b.toInt) ∧
    (b.toInt.natAbs ≤ 12790 → b.toInt % 10 = 0 →
      ∃ r, Delivers (.tempEncH a b) s r false ∧ tempValue r = (b.toInt : Rat) / 100)

/-! ### Decoders -/

/-- R165, R170: DEC_POWER and DEC_READY deliver bit 0 and ignore every other bit. The spec marks R165 as
derived. -/
def Obligations.PowerAndReadyDeliverBitZero : Prop :=
  ∀ (a b : Word) (s : State),
    Delivers (.decPower a b) s (BitVec.ofNat 16 (a.toNat % 2)) false ∧
    Delivers (.decReady a b) s (BitVec.ofNat 16 (a.toNat % 2)) false

/-- R164, R166 to R169: each labelled decoder delivers the code of its field whatever the code, raises no
error, and sets LBL exactly when the code has a label. The spec marks R166 to R169 as derived. -/
def Obligations.LabelledDecodersDeliverCodeAndLabel : Prop :=
  ∀ (a b : Word) (s : State),
    Delivers (.decFandir a b) s (BitVec.ofNat 16 (a.toNat / 256 % 8)) (labelOf (.decFandir a b)) ∧
    Delivers (.decFanvol a b) s (BitVec.ofNat 16 (a.toNat / 4096 % 8)) (labelOf (.decFanvol a b)) ∧
    Delivers (.decMode a b) s (BitVec.ofNat 16 (a.toNat % 16)) (labelOf (.decMode a b)) ∧
    Delivers (.decOpstat a b) s (BitVec.ofNat 16 (a.toNat / 256 % 16)) (labelOf (.decOpstat a b))

/-- R171: DEC_LINK delivers bit uid - 100 of the map word; a bad uid raises INVALID_UNIT. -/
def Obligations.DecLinkDeliversUnitBit : Prop :=
  ∀ (a b : Word) (s : State),
    (IsUid b →
      Delivers (.decLink a b) s (BitVec.ofNat 16 (a.toNat / 2 ^ (b.toNat - 100) % 2)) false) ∧
    (¬ IsUid b → Raises (.decLink a b) s 2)

/-- R172, R173: the signed value of the low and of the high byte, as a 16-bit integer. -/
def Obligations.SignedBytesAreSignExtended : Prop :=
  ∀ (a b : Word) (s : State),
    (∃ v, Delivers (.decSbyteLo a b) s v false ∧
      v.toInt = if a.toNat % 256 < 128 then (a.toNat % 256 : Int) else (a.toNat % 256 : Int) - 256) ∧
    ∃ v, Delivers (.decSbyteHi a b) s v false ∧
      v.toInt = if a.toNat / 256 < 128 then (a.toNat / 256 : Int) else (a.toNat / 256 : Int) - 256

/-- R174: EXTRACT delivers the field its descriptor names; a bad descriptor raises INVALID_ARGUMENT. -/
def Obligations.ExtractDeliversField : Prop :=
  ∀ (a b : Word) (s : State) (lo width : Nat), lo = b.toNat % 16 → width = b.toNat / 16 % 16 + 1 →
    (b.toNat < 0x100 ∧ lo + width ≤ 16 →
      Delivers (.extract a b) s (BitVec.ofNat 16 (a.toNat / 2 ^ lo % 2 ^ width)) false) ∧
    (0x100 ≤ b.toNat ∨ 16 < lo + width → Raises (.extract a b) s 3)

/-- R175: a map word decodes to exactly 16 flags in ascending uid order, those DEC_LINK delivers for uids
100 to 115. The spec marks R175 as derived. -/
def Obligations.LinkMapDecodesSixteenUnits : Prop :=
  ∀ (a : Word) (s : State), (linkFlags a).length = 16 ∧ (linkMap a).length = 16 ∧
    ∀ k, k < 16 → ∃ flag, (linkFlags a)[k]? = some flag ∧
      (linkMap a)[k]? = some (.decLink a (BitVec.ofNat 16 (100 + k))) ∧
      Delivers (.decLink a (BitVec.ofNat 16 (100 + k))) s (if flag then 1 else 0) false

/-- R161, R162: at every P_STATUS_LAYOUT and P_CAP_LAYOUT the command for a field, among those that decode
its block, takes the word the layout names and delivers the field's bits of it at the layout's low bit, in
the width R161 or R162 gives or else the layout's; a limit is the signed byte of one half of its word. The
width of a presence flag, the place of a field the layout's word does not hold, and the half of a limit
whose low bit is neither 0 nor 8 are the model's (assumption 6). -/
def Obligations.FieldCommandsDeliverTheirField : Prop :=
  ∀ (P : Params) (s : State),
    (∀ (f : StatusField) (b : StatusBlock), ∃ w lo,
      b.words[(P.statusLayout f).1.val]? = some w ∧
      Placed (P.statusLayout f).2.1.val (statusFieldWidth P f) lo ∧
      statusFieldCommand P f w ∈ statusBlockCommands P b ∧
      (f = .roomTemperature → statusFieldCommand P f w = .tempDec w 0) ∧
      Delivers (statusFieldCommand P f w) s
        (BitVec.ofNat 16 (w.toNat / 2 ^ lo % 2 ^ statusFieldWidth P f)) false) ∧
    ∀ (f : CapField) (b : CapBlock), ∃ w,
      b.words[(P.capLayout f).1.val]? = some w ∧ capFieldCommand P f w ∈ capBlockCommands P b ∧
      match capFieldWidth P f with
      | some width => ∃ lo, Placed (P.capLayout f).2.1.val width lo ∧
          Delivers (capFieldCommand P f w) s (BitVec.ofNat 16 (w.toNat / 2 ^ lo % 2 ^ width)) false
      | none => ∃ v, Delivers (capFieldCommand P f w) s v false ∧
          (let byte := if (P.capLayout f).2.1.val < 8 then w.toNat % 256 else w.toNat / 256
           v.toInt = if byte < 128 then (byte : Int) else (byte : Int) - 256)

/-! ### Encoders -/

/-- R193, R194: the power encoders change bit 0 only. -/
def Obligations.PowerEncodersChangeBitZero : Prop :=
  ∀ (a b : Word) (s : State),
    (b.toNat ≤ 1 → ∃ v, Delivers (.w0SetPower a b) s v false ∧
      ∀ i, i < 16 → v.getLsbD i = if i = 0 then b.getLsbD 0 else a.getLsbD i) ∧
    (1 < b.toNat → Raises (.w0SetPower a b) s 3) ∧
    ∃ v, Delivers (.w0TogglePower a b) s v false ∧
      ∀ i, i < 16 → v.getLsbD i = if i = 0 then !a.getLsbD 0 else a.getLsbD i

/-- R195 to R197: the fan and compound encoders set FAN_ENABLE, replace their code field, the compound
one forces bit 0 on, and every other bit passes through. -/
def Obligations.FanEncodersReplaceTheirField : Prop :=
  ∀ (a b : Word) (s : State),
    (b.toNat ≤ 7 →
      (∃ v, Delivers (.w0SetFandir a b) s v false ∧ ∀ i, i < 16 → v.getLsbD i =
        if 8 ≤ i ∧ i ≤ 10 then b.getLsbD (i - 8) else if i = 5 ∨ i = 6 then true else a.getLsbD i) ∧
      (∃ v, Delivers (.w0SetFanvol a b) s v false ∧ ∀ i, i < 16 → v.getLsbD i =
        if 12 ≤ i ∧ i ≤ 14 then b.getLsbD (i - 12)
        else if i = 5 ∨ i = 6 then true else a.getLsbD i) ∧
      ∃ v, Delivers (.w0Compound a b) s v false ∧ ∀ i, i < 16 → v.getLsbD i =
        if 12 ≤ i ∧ i ≤ 14 then b.getLsbD (i - 12)
        else if i = 0 ∨ i = 5 ∨ i = 6 then true else a.getLsbD i) ∧
    (7 < b.toNat → Raises (.w0SetFandir a b) s 3 ∧ Raises (.w0SetFanvol a b) s 3 ∧
      Raises (.w0Compound a b) s 3)

/-- R198, R201: the mode and operating-status encoders replace their 4 bits only. -/
def Obligations.WordOneCodeEncodersReplaceTheirField : Prop :=
  ∀ (a b : Word) (s : State),
    (b.toNat ≤ 15 →
      (∃ v, Delivers (.w1SetMode a b) s v false ∧ ∀ i, i < 16 → v.getLsbD i =
        if i ≤ 3 then b.getLsbD i else a.getLsbD i) ∧
      ∃ v, Delivers (.w1SetOpstat a b) s v false ∧ ∀ i, i < 16 → v.getLsbD i =
        if 8 ≤ i ∧ i ≤ 11 then b.getLsbD (i - 8) else a.getLsbD i) ∧
    (15 < b.toNat → Raises (.w1SetMode a b) s 3 ∧ Raises (.w1SetOpstat a b) s 3)

/-- R199, R200: the filter-sign writes set and clear bits 7:4 only, and clearing after setting is
clearing. The spec marks R200 as derived. -/
def Obligations.FilterEncodersSetAndClear : Prop :=
  ∀ (a b : Word) (s : State), ∃ v w,
    Delivers (.w1FilterSet a b) s v false ∧ Delivers (.w1FilterClr a b) s w false ∧
    (∀ i, i < 16 → v.getLsbD i = if 4 ≤ i ∧ i ≤ 7 then true else a.getLsbD i) ∧
    (∀ i, i < 16 → w.getLsbD i = if 4 ≤ i ∧ i ≤ 7 then false else a.getLsbD i) ∧
    Delivers (.w1FilterClr v b) s w false

/-- R192: a code operand is checked against the width of its field and nothing else, whatever the
current word is. -/
def Obligations.CodeCheckIsFieldWidth : Prop :=
  ∀ (i : Instr) (s : State) (width : Nat), codeWidth i.bKind = some width →
    (i.opB.toNat < 2 ^ width → ∃ v, Delivers i s v false) ∧
    (2 ^ width ≤ i.opB.toNat → Raises i s 3)

/-- Each decoder reads back the code its encoder wrote, from any word (R160: the status words share the
control words' layout). -/
def Obligations.DecodersReadBackEncoders : Prop :=
  ∀ (a b : Word) (s : State),
    (b.toNat ≤ 1 → ∃ v, Delivers (.w0SetPower a b) s v false ∧ Delivers (.decPower v 0) s b false) ∧
    (b.toNat ≤ 7 →
      (∃ v lbl, Delivers (.w0SetFandir a b) s v false ∧ Delivers (.decFandir v 0) s b lbl) ∧
      (∃ v lbl, Delivers (.w0SetFanvol a b) s v false ∧ Delivers (.decFanvol v 0) s b lbl) ∧
      ∃ v lbl, Delivers (.w0Compound a b) s v false ∧ Delivers (.decFanvol v 0) s b lbl ∧
        Delivers (.decPower v 0) s 1 false) ∧
    (b.toNat ≤ 15 →
      (∃ v lbl, Delivers (.w1SetMode a b) s v false ∧ Delivers (.decMode v 0) s b lbl) ∧
      ∃ v lbl, Delivers (.w1SetOpstat a b) s v false ∧ Delivers (.decOpstat v 0) s b lbl)

/-! ### STATUS and whole-machine rules -/

/-- R220: CLR_ERR writes ERR, STK and LBL to 0; RES and CRC are unchanged. It cannot fail. -/
def Obligations.ClrErrClearsErrorState : Prop :=
  ∀ (a b : Word) (s : State), ∃ t, exec (.clrErr a b) s = .next t ∧ t.res = s.res ∧
    t.crc = s.crc ∧ t.inputs = s.inputs ∧ StatusReads t.status 0 false false s.status

/-- R241 to R243: a command raises an error exactly when an operand lies outside its domain, INVALID_UNIT
before INVALID_ARGUMENT, and an unassigned opcode raises ILLEGAL_OP; an error writes STATUS alone. -/
def Obligations.ErrorsExactlyOnBadOperands : Prop :=
  (∀ (i : Instr) (s : State),
    (i.wellFormed = true → ∃ t, exec i s = .next t ∧ t.status.toNat % 8 = 0) ∧
    (i.wellFormed = false →
      (i.bKind = .uid ∧ ¬ IsUid i.opB → Raises i s 2) ∧
      (¬ (i.bKind = .uid ∧ ¬ IsUid i.opB) → Raises i s 3))) ∧
  ∀ (p : HostInput) (s : State) (e : DecodeError), p.rst = false →
    decode p.op p.a p.b = .error e →
    ∃ t, present p s = .next t ∧ t.res = s.res ∧ t.crc = s.crc ∧ t.inputs = s.inputs ∧
      StatusReads t.status 1 true false s.status

/-- CRC is written only by CRC_INIT and by a CRC_BYTE that succeeds (R21). -/
def Obligations.OnlyCrcCommandsWriteCrc : Prop :=
  ∀ (i : Instr) (s : State), ∃ t, exec i s = .next t ∧
    (t.crc = s.crc ∨ i.opcode = 0x01 ∨ (i.opcode = 0x02 ∧ i.opB.toNat ≤ 0xFF))

/-- RES is unchanged by CRC_INIT, CRC_BYTE and CLR_ERR and by every command that raises an error (R22). -/
def Obligations.ResKeptByCrcAndClearAndErrors : Prop :=
  ∀ (i : Instr) (s : State), ∃ t, exec i s = .next t ∧
    (i.opcode ∈ ([0x01, 0x02, 0x7F] : List Byte) ∨ t.status.toNat % 8 ≠ 0 → t.res = s.res)

/-- R26: every command writes LBL: a labelled decoder writes 1 when its code has a label, and everything
else, errors and CLR_ERR included, writes 0. -/
def Obligations.EveryCommandWritesLabelFlag : Prop :=
  (∀ (i : Instr) (s : State), ∃ t, exec i s = .next t ∧ t.status.getLsbD 4 = labelOf i) ∧
  ∀ (p : HostInput) (s : State) (e : DecodeError), p.rst = false →
    decode p.op p.a p.b = .error e → ∃ t, present p s = .next t ∧ t.status.getLsbD 4 = false

/-- R25: over any sequence with no CLR_ERR and no reset, STK tells at the end whether it was 1 before or
any command raised an error; and only CLR_ERR and reset take it from 1 to 0. -/
def Obligations.StickyFlagRecordsAnyError : Prop :=
  (∀ (s : State) (ps : List HostInput), (∀ p ∈ ps, p.rst = false ∧ p.op ≠ 0x7F) →
    ∃ t, runInputs s ps = .next t ∧
      t.status.getLsbD 3 = (s.status.getLsbD 3 || ps.any HostInput.fails)) ∧
  ∀ (s : State) (p : HostInput) (rest : List HostInput), s.inputs = p :: rest →
    ∃ t, step s = .next t ∧
      (s.status.getLsbD 3 = true →
        (t.status.getLsbD 3 = false ↔ p.rst = true ∨ p.op = 0x7F))

/-- R73: an operand field that a command does not use is ignored. -/
def Obligations.UnusedOperandsAreIgnored : Prop :=
  ∀ (i : Instr) (s : State), exec i s = exec i.eraseUnused s

/-- Every command but CRC_BYTE, CRC_INIT and CLR_ERR, issued twice with the same operands, leaves RES and
CRC as one issue does; CRC_BYTE does not (R52). -/
def Obligations.CommandsButCrcByteAreIdempotent : Prop :=
  (∀ (i : Instr) (s : State), i.opcode ∉ ([0x01, 0x02, 0x7F] : List Byte) →
    ∃ t u, exec i s = .next t ∧ exec i t = .next u ∧ u.res = t.res ∧ u.crc = t.crc) ∧
  ∃ (b : Word) (s t u : State), exec (.crcByte 0 b) s = .next t ∧ exec (.crcByte 0 b) t = .next u ∧
    u.crc ≠ t.crc

/-- The encoders, decoders, address and temperature commands hold no state: what they report and deliver
depends on their operands alone (R20). -/
def Obligations.ResultsDependOnOperandsAlone : Prop :=
  ∀ (i : Instr) (s s' t t' : State), i.opcode ∉ ([0x01, 0x02, 0x03, 0x04, 0x7F] : List Byte) →
    exec i s = .next t → exec i s' = .next t' →
    t.status.toNat % 8 = t'.status.toNat % 8 ∧ (t.status.toNat % 8 = 0 → t.res = t'.res) ∧
      t.status.getLsbD 4 = t'.status.getLsbD 4

/-- No sequence of inputs stops the block: every presented command completes in its step and the next
one runs, whatever it was (R240, R245, R292). -/
def Obligations.EverySequenceRunsToItsEnd : Prop :=
  ∀ (s : State) (ps : List HostInput), ∃ t, runInputs s ps = .next t ∧ t.inputs = []

/-! ### The host protocol -/

/-- A single-field change sends, in order, the 6-word status read, the prime with the current word and
the commit with the encoder's word, with one silent interval between the two writes; on a bad uid or a
rejected argument nothing is sent (R283, R284, R288, R291). The filter-sign reset sends the read, the
prime, the pattern word and the cleared word, with a silent interval between each two writes (R286).
That a prime is required at `Config.params` is R291. -/
def Obligations.SetFieldPrimesWaitsCommits : Prop :=
  Config.params.primeRequired = true ∧
  ∀ P : Params, P.primeRequired = true →
    (∀ (uid k : Word) (current : StatusBlock → Word) (mutate : Word → Except BlockError Word)
      (status : StatusBlock),
      (∀ v z : Word, IsUid uid → 1 ≤ k.toNat → k.toNat ≤ 3 → mutate 0 = .ok z →
        mutate (current status) = .ok v →
        ∃ start reg : Word, UnitAddresses uid (k.toNat - 1) start reg ∧
          setFieldPlan P uid k current mutate status = .ok
            [.send (.readInput start 6), .send (.writeSingle reg (current status)), .wait 500,
              .send (.writeSingle reg v)]) ∧
      (¬ IsUid uid → setFieldPlan P uid k current mutate status = .error .invalidUnit) ∧
      ∀ e, IsUid uid → 1 ≤ k.toNat → k.toNat ≤ 3 → mutate 0 = .error e →
        setFieldPlan P uid k current mutate status = .error e) ∧
    ∀ (uid : Word) (status : StatusBlock) (s : State) (pattern cleared : Word), IsUid uid →
      Delivers (.w1FilterSet status.w1 0) s pattern false →
      Delivers (.w1FilterClr status.w1 0) s cleared false →
      ∃ start reg : Word, UnitAddresses uid 1 start reg ∧
        HostOp.filterSignReset.plan P uid status = .ok
          [.send (.readInput start 6), .send (.writeSingle reg status.w1), .wait 500,
            .send (.writeSingle reg pattern), .wait 500, .send (.writeSingle reg cleared)]

/-- R202: which status word, encoder command and control word each single-field operation uses. The plan
primes control word j + 1 with status word j and commits what the operation's command delivers from that
word; it is an error where the command raises one, and for a bad uid, whatever the operation. -/
def Obligations.OperationsUseTheirCommands : Prop :=
  ∀ (P : Params) (uid : Word) (status : StatusBlock) (op : HostOp), P.primeRequired = true →
    (¬ IsUid uid → op.plan P uid status = .error .invalidUnit) ∧
    ∀ (j : Nat) (encoder : Word → Instr) (w : Word) (s : State), singleField op = some (j, encoder) →
      status.words[j]? = some w → IsUid uid →
      op.commands status = [encoder w] ∧
      (∀ v : Word, Delivered (execWith P (encoder w) s) s v false →
        ∃ start reg : Word, UnitAddresses uid j start reg ∧
          op.plan P uid status = .ok
            [.send (.readInput start 6), .send (.writeSingle reg w), .wait 500,
              .send (.writeSingle reg v)]) ∧
      (Raised (execWith P (encoder w) s) s 3 → op.plan P uid status = .error .invalidArgument)

/-- A compound write is one prime and one commit, each one 0x10 transaction of 3 words to control word 1,
with one silent interval between; the commit carries what W0_COMPOUND, W1_SET_MODE and TEMP_ENC_H
deliver (R285, R287). With a bad uid, volume, mode or setpoint it is an error and nothing is sent
(R288). -/
def Obligations.CompoundWriteIsOneTransaction : Prop :=
  ∀ (P : Params) (s : State) (uid vol mode c : Word) (status : StatusBlock), P.primeRequired = true →
    (∀ w0 w1 w2 : Word, IsUid uid → Delivers (.w0Compound status.w0 vol) s w0 false →
      Delivers (.w1SetMode status.w1 mode) s w1 false →
      Delivered (execWith P (.tempEncH 0 c) s) s w2 false →
      ∃ start reg : Word, UnitAddresses uid 0 start reg ∧
        (HostOp.compound vol mode c).plan P uid status = .ok
          [.send (.readInput start 6), .send (.writeMultiple reg [status.w0, status.w1, status.w2]),
            .wait 500, .send (.writeMultiple reg [w0, w1, w2])]) ∧
    (¬ IsUid uid → ∀ answers,
      (HostOp.compound vol mode c).plan P uid status = .error .invalidUnit ∧
      runOp P uid (.compound vol mode c) answers = ([], .error (.block .invalidUnit))) ∧
    (IsUid uid → 7 < vol.toNat ∨ 15 < mode.toNat ∨ 12790 < c.toInt.natAbs → ∀ answers,
      (HostOp.compound vol mode c).plan P uid status = .error .invalidArgument ∧
      runOp P uid (.compound vol mode c) answers = ([], .error (.block .invalidArgument)))

/-- An operation the block rejects ends with that error and nothing sent (R288). Any other first reads the
status block: where the read fails it ends there with the read's error; where it succeeds the rest is the
rest of the plan made from the words read (R283, R289, R290). That the read comes first also where
P_PRIME_REQUIRED = false is the model's choice, since no rule gives that sequence (assumption 22). -/
def Obligations.OperationsValidateBeforeSending : Prop :=
  ∀ (P : Params) (uid : Word) (op : HostOp) (answers : List (List Answer)),
    (∀ (status : StatusBlock) (e : BlockError), op.plan P uid status = .error e →
      runOp P uid op answers = ([], .error (.block e))) ∧
    ∀ (status : StatusBlock) (plan : List BusStep), op.plan P uid status = .ok plan →
      ∃ start : Word, start.toNat = 2000 + 6 * (uid.toNat - 100) ∧
        (∀ e, (transact P (.readInput start 6) (answers.headD [])).2 = .error e →
          runOp P uid op answers =
            ((transact P (.readInput start 6) (answers.headD [])).1, .error e)) ∧
        ∀ ws, (transact P (.readInput start 6) (answers.headD [])).2 = .ok ws →
          ∃ (b : StatusBlock) (rest : List BusStep), b.words = ws ∧
            op.plan P uid b = .ok (.send (.readInput start 6) :: rest) ∧
            runOp P uid op answers =
              ((transact P (.readInput start 6) (answers.headD [])).1 ++
                (runPlan P rest answers.tail).1, (runPlan P rest answers.tail).2)

/-- The host's reads: with a bad uid InvalidUnit and nothing sent (R43, R248); else the one transaction of
the address map, with the block's address and its number of words (R42, R44). -/
def Obligations.ReadsUseTheAddressMap : Prop :=
  ∀ (P : Params) (answers : List Answer),
    (∀ uid : Word, ¬ IsUid uid →
      runRead P (.unitStatus uid) answers = ([], .error (.block .invalidUnit)) ∧
      runRead P (.unitCapability uid) answers = ([], .error (.block .invalidUnit))) ∧
    (∀ uid : Word, IsUid uid → ∃ status cap : Word,
      status.toNat = 2000 + 6 * (uid.toNat - 100) ∧ cap.toNat = 1000 + 3 * (uid.toNat - 100) ∧
      runRead P (.unitStatus uid) answers = transact P (.readInput status 6) answers ∧
      runRead P (.unitCapability uid) answers = transact P (.readInput cap 3) answers) ∧
    runRead P .adapterStatus answers = transact P (.readInput 0 1) answers ∧
    runRead P .connectionMap answers = transact P (.readInput 1 1) answers ∧
    runRead P .communicationMap answers = transact P (.readInput 5 1) answers ∧
    runRead P .bulkStatus answers = transact P (.readInput 2000 96) answers

/-- R129: an answer is good exactly when it is the response the transaction asks for, with its CRC; a
timeout, a frame under 3 bytes (I26: malformed), a frame whose CRC_CHECK gives 0 from any state of the
block, and any other frame is a transport failure. That an exception response is one, and which failure a
frame of 3 bytes or more is named, is the model's choice (assumption 14). -/
def Obligations.OnlyTheResponseIsGood : Prop :=
  ∀ (addr : Byte) (t : Transaction),
    (∀ (ys : List Byte) (ws : List Word), receive addr t (some ys) = .ok ws ↔
      ws.length = t.wordsRead ∧ ys = t.response addr ws) ∧
    receive addr t none = .error .timeout ∧
    (∀ ys : List Byte, ys.length < 3 → receive addr t (some ys) = .error .malformedFrame) ∧
    ∀ (s u : State) (ys : List Byte), 3 ≤ ys.length → runCommands s (crcCheckFrame ys) = .next u →
      (u.res = 0 →
        receive addr t (some ys) =
          .error (if ys.length < t.responseLength then .shortRead else .crcMismatch)) ∧
      (u.res = 1 → (∀ ws, ws.length = t.wordsRead → ys ≠ t.response addr ws) →
        receive addr t (some ys) = .error .malformedFrame)

/-- The retry policy: at most 3 attempts, 1.5 s between any two, success as soon as one is good, and
failure after exactly 3 attempts and 2 delays when none is, with the last attempt's failure (R290). That
an exception response counts as not good, so that it is retried too, is the model's choice (assumption
14). -/
def Obligations.RetryStopsAfterThreeAttempts : Prop :=
  ∀ (P : Params) (t : Transaction) (answers : List Answer),
    (∀ k ws, k < 3 → receive P.slaveAddr t (answers.getD k none) = .ok ws →
      (∀ j, j < k → ¬ Good P t (answers.getD j none)) →
      attempt P t retryBudget answers =
        ((List.replicate k [BusStep.send t, .wait 1500]).flatten ++ [.send t], .ok ws)) ∧
    ∀ e, (∀ k, k < 3 → ¬ Good P t (answers.getD k none)) →
      receive P.slaveAddr t (answers.getD 2 none) = .error e →
      attempt P t retryBudget answers =
        ([.send t, .wait 1500, .send t, .wait 1500, .send t], .error e)

/-- A sequence whose transactions are all answered runs to its end and carries exactly its steps, each
transaction with its attempts. Else it carries that of the steps before the first transaction that is not
answered, then exactly 3 sends of that one, and nothing more, and reports CommunicationError with the last
failure: a prime that fails is followed by no commit (R289, R290). That 3 sends also follow where the
adapter answers with an exception response is the model's choice (assumption 14). -/
def Obligations.SequenceStopsAtFirstFailure : Prop :=
  ∀ (P : Params) (plan : List BusStep) (answers : List (List Answer)),
    (∀ t ∈ sends plan, t.admitted = true) →
    (AllAnswered P (sends plan) answers ∧ runPlan P plan answers = (carried P plan answers, .ok ())) ∨
    ∃ (before after : List BusStep) (t : Transaction) (e : TransportFailure),
      plan = before ++ .send t :: after ∧ AllAnswered P (sends before) answers ∧
      ¬ Answered P t (answers.getD (sends before).length []) ∧
      receive P.slaveAddr t ((answers.getD (sends before).length []).getD 2 none) = .error e ∧
      runPlan P plan answers =
        (carried P before answers ++ [.send t, .wait 1500, .send t, .wait 1500, .send t],
          .error (.communicationError e))

/-- The bulk status read: slot k is words 6k to 6k+5 and belongs to uid 100+k, for as many whole slots as
the words fill, at most 16, and no error (R44). -/
def Obligations.BulkReadSplitsIntoSlots : Prop :=
  ∀ ws : List Word,
    (bulkSlots 16 ws).length = min 16 (ws.length / 6) ∧
    (bulkUnits ws).length = min 16 (ws.length / 6) ∧
    ∀ k uid b, (bulkUnits ws)[k]? = some (uid, b) → uid.toNat = 100 + k ∧
      (bulkSlots 16 ws)[k]? = some b ∧ b.words = (ws.drop (6 * k)).take 6

/-- A status block of other than 6 words and a capability block of other than 3 are
PreconditionViolations (R176). -/
def Obligations.BlocksOfWrongLengthAreRejected : Prop :=
  ∀ ws : List Word,
    (statusBlockOf ws = .error .preconditionViolation ↔ ws.length ≠ 6) ∧
    (ws.length = 6 → ∃ b, statusBlockOf ws = .ok b ∧ b.words = ws) ∧
    (capBlockOf ws = .error .preconditionViolation ↔ ws.length ≠ 3) ∧
    (ws.length = 3 → ∃ b, capBlockOf ws = .ok b ∧ [b.w0, b.w1, b.w2] = ws)
end

