-- ==== Sys2Proof/Laws/Bits.lean ====
section
/-! SUPPORT. What `field` and `ins` (R9) do to each bit, and the bytes of a word. -/

namespace Sys2Proof.Machine

theorem fieldMask_getLsbD (lo width i : Nat) (hi : i < 16) :
    (fieldMask lo width).getLsbD i = (decide (lo ≤ i) && decide (i - lo < width)) := by
  unfold fieldMask
  rw [BitVec.getLsbD_shiftLeft, BitVec.getLsbD_ofNat, Nat.testBit_two_pow_sub_one]
  have hw : (i - lo < 16) := by omega
  by_cases h : lo ≤ i
  · simp [h, hi, hw, show ¬ i < lo by omega]
  · simp [h, hi, show i < lo by omega]

/-- Bit `i` of `field w lo width`. -/
theorem field_getLsbD (w : Word) (lo width i : Nat) :
    (field w lo width).getLsbD i = (decide (i < width) && w.getLsbD (lo + i)) := by
  by_cases hi : i < 16
  · unfold field
    rw [BitVec.getLsbD_and, fieldMask_getLsbD _ _ _ hi, BitVec.getLsbD_ushiftRight]
    simp [Bool.and_comm]
  · rw [BitVec.getLsbD_of_ge _ _ (by omega), BitVec.getLsbD_of_ge w _ (by omega)]
    simp

/-- Bit `i` of `ins w lo width v`: the field's bits are `v`'s, every other bit is `w`'s. -/
theorem ins_getLsbD (w v : Word) (lo width i : Nat) (hi : i < 16) :
    (ins w lo width v).getLsbD i
      = if lo ≤ i ∧ i < lo + width then v.getLsbD (i - lo) else w.getLsbD i := by
  unfold ins
  rw [BitVec.getLsbD_or, BitVec.getLsbD_and, BitVec.getLsbD_not, fieldMask_getLsbD _ _ _ hi,
    BitVec.getLsbD_shiftLeft, BitVec.getLsbD_and, fieldMask_getLsbD _ _ _ (by omega)]
  by_cases h₁ : lo ≤ i
  · by_cases h₂ : i - lo < width
    · rw [if_pos ⟨h₁, by omega⟩]; simp [h₁, h₂, hi]
    · rw [if_neg (by omega)]; simp [h₁, h₂, hi]
  · rw [if_neg (by omega)]; simp [h₁, hi]

/-- A field that another insertion does not overlap is unchanged by it. -/
theorem field_ins_disjoint (w v : Word) (lo width lo' width' : Nat)
    (h : lo + width ≤ lo' ∨ lo' + width' ≤ lo) :
    field (ins w lo' width' v) lo width = field w lo width := by
  apply BitVec.eq_of_getLsbD_eq
  intro i hi
  rw [field_getLsbD, field_getLsbD]
  by_cases hw : i < width
  · by_cases hb : lo + i < 16
    · rw [ins_getLsbD _ _ _ _ _ hb, if_neg (by omega)]
    · rw [BitVec.getLsbD_of_ge _ _ (by omega), BitVec.getLsbD_of_ge _ _ (by omega)]
  · simp [hw]

/-- A field just inserted reads back as the value inserted, cut to its width. -/
theorem field_ins_same (w v : Word) (lo width : Nat) (h : lo + width ≤ 16) :
    field (ins w lo width v) lo width = field v 0 width := by
  apply BitVec.eq_of_getLsbD_eq
  intro i hi
  rw [field_getLsbD, field_getLsbD]
  by_cases hw : i < width
  · rw [ins_getLsbD _ _ _ _ _ (by omega), if_pos (by omega)]
    simp
  · simp [hw]

/-- A field as a number: the bits from `lo` on, cut to its width. -/
theorem field_toNat (w : Word) (lo width : Nat) (h : width ≤ 16) :
    (field w lo width).toNat = w.toNat / 2 ^ lo % 2 ^ width := by
  have hp : 2 ^ width ≤ 2 ^ 16 := Nat.pow_le_pow_right (by omega) h
  have hpos : 0 < 2 ^ width := Nat.pow_pos (by omega)
  simp only [field, fieldMask, BitVec.shiftLeft_zero, BitVec.toNat_and, BitVec.toNat_ushiftRight,
    BitVec.toNat_ofNat]
  rw [Nat.mod_eq_of_lt (by omega), Nat.and_two_pow_sub_one_eq_mod, Nat.shiftRight_eq_div_pow]

@[simp] theorem loByte_getLsbD (w : Word) (i : Nat) :
    (loByte w).getLsbD i = (decide (i < 8) && w.getLsbD i) := by
  simp [loByte]

@[simp] theorem hiByte_getLsbD (w : Word) (i : Nat) :
    (hiByte w).getLsbD i = (decide (i < 8) && w.getLsbD (8 + i)) := by
  simp [hiByte]

@[simp] theorem wordBytes_length (w : Word) : (wordBytes w).length = 2 := rfl

end Sys2Proof.Machine
end

