-- ==== Sys2Proof/Laws/Decode.lean ====
section
/-! SUPPORT. The opcode map as a table (R74, R76): 30 rows, no two with the same opcode or the same
mnemonic. The fields of a packed command word (R70). -/

namespace Sys2Proof

theorem opcodeMap_length : opcodeMap.length = 30 := rfl

theorem opcodeMap_ops_distinct : (opcodeMap.map OpcodeRow.op).Nodup := by decide

/-- Every row of the opcode map decodes. -/
theorem opcodeMap_decodes : ∀ r ∈ opcodeMap, (decode r.op 0 0).toBool = true := by decide

@[simp] theorem cmdOp_packCmd (op : Byte) (a b : Word) : cmdOp (packCmd op a b) = op := by
  apply BitVec.eq_of_getLsbD_eq
  intro i hi
  simp only [cmdOp, packCmd, BitVec.getLsbD_extractLsb', BitVec.getLsbD_append]
  simp [hi, show ¬ 32 + i < 16 by omega, show ¬ 32 + i - 16 < 16 by omega,
    show 32 + i - 16 - 16 = i by omega]

@[simp] theorem cmdA_packCmd (op : Byte) (a b : Word) : cmdA (packCmd op a b) = a := by
  apply BitVec.eq_of_getLsbD_eq
  intro i hi
  simp only [cmdA, packCmd, BitVec.getLsbD_extractLsb', BitVec.getLsbD_append]
  simp [hi]

@[simp] theorem cmdB_packCmd (op : Byte) (a b : Word) : cmdB (packCmd op a b) = b := by
  apply BitVec.eq_of_getLsbD_eq
  intro i hi
  simp only [cmdB, packCmd, BitVec.getLsbD_extractLsb', BitVec.getLsbD_append]
  simp [hi]

end Sys2Proof
end

