-- ==== Sys2Proof/Laws/Driver.lean ====
section
/-! SUPPORT. What each operation of the host protocol can do, once. -/

namespace Sys2Proof.Machine

@[simp] theorem receive_none (addr : Byte) (t : Transaction) : receive addr t none = .error .timeout := rfl

/-- All that an answer can be: words, with the frame CRC-valid and of the response's layout, or a failure. -/
theorem receive_cases (addr : Byte) (t : Transaction) (ys : List Byte) :
    (receive addr t (some ys) = .ok (t.payload ys) ∧ frameValid ys = true ∧
      (t.payload ys).length = t.wordsRead ∧ ys = t.response addr (t.payload ys)) ∨
    ∃ e, receive addr t (some ys) = .error e := by
  simp only [receive]
  split
  next => exact .inr ⟨_, rfl⟩
  next =>
    split
    next hv =>
      split
      next hl => exact .inl ⟨rfl, hv, hl.1, hl.2⟩
      next => exact .inr ⟨_, rfl⟩
    next => split <;> exact .inr ⟨_, rfl⟩

/-- An answer under 3 bytes is malformed (I26). -/
theorem receive_under3 (addr : Byte) (t : Transaction) (ys : List Byte) (h : ys.length < 3) :
    receive addr t (some ys) = .error .malformedFrame := if_pos h

/-- An answer of 3 bytes or more whose CRC fails. -/
theorem receive_badCrc (addr : Byte) (t : Transaction) (ys : List Byte) (h : 3 ≤ ys.length)
    (hv : frameValid ys = false) :
    receive addr t (some ys) =
      .error (if ys.length < t.responseLength then .shortRead else .crcMismatch) := by
  simp only [receive, hv, if_neg (Nat.not_lt.mpr h), Bool.false_eq_true, if_false]
  split <;> rfl

theorem attempt_ok (P : Params) (t : Transaction) (n : Nat) (answers : List Answer) (ws : List Word)
    (h : receive P.slaveAddr t (answers.headD none) = .ok ws) :
    attempt P t (n + 1) answers = ([.send t], .ok ws) := by
  rw [attempt, h]

theorem attempt_last (P : Params) (t : Transaction) (answers : List Answer) (e : TransportFailure)
    (h : receive P.slaveAddr t (answers.headD none) = .error e) :
    attempt P t 1 answers = ([.send t], .error e) := by
  rw [attempt, h]; rfl

theorem attempt_again (P : Params) (t : Transaction) (n : Nat) (answers : List Answer)
    (e : TransportFailure) (h : receive P.slaveAddr t (answers.headD none) = .error e) :
    attempt P t (n + 2) answers =
      (.send t :: .wait retryDelay :: (attempt P t (n + 1) answers.tail).1,
        (attempt P t (n + 1) answers.tail).2) := by
  rw [attempt, h]; rfl

/-- All that a transaction can do: refused with nothing sent, answered, or failed on every attempt. -/
theorem transact_cases (P : Params) (t : Transaction) (answers : List Answer) :
    (t.admitted = false ∧ transact P t answers = ([], .error .unnamedAddress)) ∨
    (t.admitted = true ∧ ∃ ws, (attempt P t retryBudget answers).2 = .ok ws ∧
      transact P t answers = ((attempt P t retryBudget answers).1, .ok ws)) ∨
    (t.admitted = true ∧ ∃ e, (attempt P t retryBudget answers).2 = .error e ∧
      transact P t answers = ((attempt P t retryBudget answers).1, .error (.communicationError e))) := by
  unfold transact
  cases ha : t.admitted with
  | false => exact .inl ⟨rfl, rfl⟩
  | true =>
    cases hr : (attempt P t retryBudget answers).2 with
    | ok ws => exact .inr (.inl ⟨rfl, ws, rfl, by simp [hr, Except.mapError]⟩)
    | error e => exact .inr (.inr ⟨rfl, e, rfl, by simp [hr, Except.mapError]⟩)

@[simp] theorem runPlan_nil (P : Params) (answers : List (List Answer)) :
    runPlan P [] answers = ([], .ok ()) := rfl

@[simp] theorem runPlan_wait (P : Params) (ms : Nat) (rest : List BusStep) (answers : List (List Answer)) :
    runPlan P (.wait ms :: rest) answers =
      (.wait ms :: (runPlan P rest answers).1, (runPlan P rest answers).2) := rfl

theorem runPlan_send_ok (P : Params) (t : Transaction) (rest : List BusStep)
    (answers : List (List Answer)) (ws : List Word)
    (h : (transact P t (answers.headD [])).2 = .ok ws) :
    runPlan P (.send t :: rest) answers =
      ((transact P t (answers.headD [])).1 ++ (runPlan P rest answers.tail).1,
        (runPlan P rest answers.tail).2) := by
  rw [runPlan]; simp only [h]

theorem runPlan_send_error (P : Params) (t : Transaction) (rest : List BusStep)
    (answers : List (List Answer)) (e : HostError)
    (h : (transact P t (answers.headD [])).2 = .error e) :
    runPlan P (.send t :: rest) answers = ((transact P t (answers.headD [])).1, .error e) := by
  rw [runPlan]; simp only [h]

@[simp] theorem primeSteps_required (P : Params) (t : Transaction) (h : P.primeRequired = true) :
    primeSteps P t = [.send t, .wait silentInterval] := if_pos h

@[simp] theorem writes_power_some (P : Params) (uid b : Word) (st : StatusBlock) :
    HostOp.writes P uid st (.power (some b)) =
      setFieldWrites P uid 1 StatusBlock.w0 (fun w => setPowerWord w b) st := rfl
@[simp] theorem writes_power_none (P : Params) (uid : Word) (st : StatusBlock) :
    HostOp.writes P uid st (.power none) =
      setFieldWrites P uid 1 StatusBlock.w0 (fun w => .ok (togglePowerWord w)) st := rfl
@[simp] theorem writes_fanDirection (P : Params) (uid b : Word) (st : StatusBlock) :
    HostOp.writes P uid st (.fanDirection b) =
      setFieldWrites P uid 1 StatusBlock.w0 (fun w => setFanDirWord w b) st := rfl
@[simp] theorem writes_fanVolume (P : Params) (uid b : Word) (st : StatusBlock) :
    HostOp.writes P uid st (.fanVolume b) =
      setFieldWrites P uid 1 StatusBlock.w0 (fun w => setFanVolWord w b) st := rfl
@[simp] theorem writes_mode (P : Params) (uid b : Word) (st : StatusBlock) :
    HostOp.writes P uid st (.mode b) =
      setFieldWrites P uid 2 StatusBlock.w1 (fun w => setModeWord w b) st := rfl
@[simp] theorem writes_filterSignReset (P : Params) (uid : Word) (st : StatusBlock) :
    HostOp.writes P uid st .filterSignReset = filterResetWrites P uid st := rfl
@[simp] theorem writes_operatingStatus (P : Params) (uid b : Word) (st : StatusBlock) :
    HostOp.writes P uid st (.operatingStatus b) =
      setFieldWrites P uid 2 StatusBlock.w1 (fun w => setOpStatWord w b) st := rfl
@[simp] theorem writes_setpointHundredths (P : Params) (uid c : Word) (st : StatusBlock) :
    HostOp.writes P uid st (.setpointHundredths c) =
      setFieldWrites P uid 3 StatusBlock.w2 (fun _ => tempEncHWord P.roundTie c) st := rfl
@[simp] theorem writes_setpointTenths (P : Params) (uid t : Word) (st : StatusBlock) :
    HostOp.writes P uid st (.setpointTenths t) =
      setFieldWrites P uid 3 StatusBlock.w2 (fun _ => tempEncTWord t) st := rfl
@[simp] theorem writes_compound (P : Params) (uid vol m c : Word) (st : StatusBlock) :
    HostOp.writes P uid st (.compound vol m c) = compoundWrites P uid vol m c st := rfl

end Sys2Proof.Machine
end

