-- ==== Sys2Proof/Laws/Flags.lean ====
section
/-! SUPPORT. Each field of STATUS after each write of a field (R23), and after each way a command can
end (R24 to R27, R220, R242). -/

namespace Sys2Proof.Machine

theorem field_code (e : ErrCode) : field e.code 0 3 = e.code := by
  cases e <;> decide

@[simp] theorem statusErr_setErr (e : ErrCode) (st : Word) : statusErr (setErr e st) = e.code := by
  rw [statusErr, setErr, field_ins_same _ _ _ _ (by omega), field_code]

@[simp] theorem statusErr_setStk (x : Bool) (st : Word) : statusErr (setStk x st) = statusErr st :=
  field_ins_disjoint _ _ _ _ _ _ (by omega)

@[simp] theorem statusErr_setLbl (x : Bool) (st : Word) : statusErr (setLbl x st) = statusErr st :=
  field_ins_disjoint _ _ _ _ _ _ (by omega)

@[simp] theorem statusStk_setErr (e : ErrCode) (st : Word) : statusStk (setErr e st) = statusStk st := by
  rw [statusStk, setErr, ins_getLsbD _ _ _ _ _ (by omega), if_neg (by omega), statusStk]

@[simp] theorem statusStk_setStk (x : Bool) (st : Word) : statusStk (setStk x st) = x := by
  rw [statusStk, setStk, ins_getLsbD _ _ _ _ _ (by omega), if_pos (by omega)]
  cases x <;> rfl

@[simp] theorem statusStk_setLbl (x : Bool) (st : Word) : statusStk (setLbl x st) = statusStk st := by
  rw [statusStk, setLbl, ins_getLsbD _ _ _ _ _ (by omega), if_neg (by omega), statusStk]

@[simp] theorem statusLbl_setErr (e : ErrCode) (st : Word) : statusLbl (setErr e st) = statusLbl st := by
  rw [statusLbl, setErr, ins_getLsbD _ _ _ _ _ (by omega), if_neg (by omega), statusLbl]

@[simp] theorem statusLbl_setStk (x : Bool) (st : Word) : statusLbl (setStk x st) = statusLbl st := by
  rw [statusLbl, setStk, ins_getLsbD _ _ _ _ _ (by omega), if_neg (by omega), statusLbl]

@[simp] theorem statusLbl_setLbl (x : Bool) (st : Word) : statusLbl (setLbl x st) = x := by
  rw [statusLbl, setLbl, ins_getLsbD _ _ _ _ _ (by omega), if_pos (by omega)]
  cases x <;> rfl

@[simp] theorem statusReserved_setErr (e : ErrCode) (st : Word) :
    statusReserved (setErr e st) = statusReserved st :=
  field_ins_disjoint _ _ _ _ _ _ (by omega)

@[simp] theorem statusReserved_setStk (x : Bool) (st : Word) :
    statusReserved (setStk x st) = statusReserved st :=
  field_ins_disjoint _ _ _ _ _ _ (by omega)

@[simp] theorem statusReserved_setLbl (x : Bool) (st : Word) :
    statusReserved (setLbl x st) = statusReserved st :=
  field_ins_disjoint _ _ _ _ _ _ (by omega)

/-- The four fields of STATUS after a success. -/
theorem statusOk_fields (lbl : Bool) (st : Word) :
    statusErr (statusOk lbl st) = 0 ∧ statusStk (statusOk lbl st) = statusStk st ∧
      statusLbl (statusOk lbl st) = lbl ∧ statusReserved (statusOk lbl st) = statusReserved st := by
  simp [statusOk, ErrCode.code]

/-- The four fields of STATUS after an error. -/
theorem statusError_fields (e : BlockError) (st : Word) :
    statusErr (statusError e st) = e.errCode.code ∧ statusStk (statusError e st) = true ∧
      statusLbl (statusError e st) = false ∧
      statusReserved (statusError e st) = statusReserved st := by
  simp [statusError]

/-- The four fields of STATUS after CLR_ERR. -/
theorem statusCleared_fields (st : Word) :
    statusErr (statusCleared st) = 0 ∧ statusStk (statusCleared st) = false ∧
      statusLbl (statusCleared st) = false ∧
      statusReserved (statusCleared st) = statusReserved st := by
  simp [statusCleared, ErrCode.code]

/-- STATUS.ERR as a number. -/
theorem statusErr_toNat (st : Word) : (statusErr st).toNat = st.toNat % 8 := by
  rw [statusErr, field_toNat _ _ _ (by omega)]; simp

/-- STATUS[15:5] as a number. -/
theorem statusReserved_toNat (st : Word) : (statusReserved st).toNat = st.toNat / 32 := by
  rw [statusReserved, field_toNat _ _ _ (by omega)]
  have := st.isLt
  show st.toNat / 32 % 2048 = _
  omega

end Sys2Proof.Machine
end

