-- ==== Sys2Proof/Laws/Operands.lean ====
section
/-! SUPPORT. What each operand form of R72 answers: a value on the fields its kind admits, its error on
every other. -/

namespace Sys2Proof.Machine

theorem readCode_ok {width : Nat} {b : Word} (h : b.toNat < 2 ^ width) : readCode width b = .ok b :=
  if_pos h

theorem readCode_error {width : Nat} {b : Word} (h : ¬ b.toNat < 2 ^ width) :
    readCode width b = .error .invalidArgument :=
  if_neg h

theorem readByte_ok {b : Word} (h : b.toNat ≤ 0xFF) : readByte b = .ok (loByte b) := if_pos h

theorem readByte_error {b : Word} (h : ¬ b.toNat ≤ 0xFF) : readByte b = .error .invalidArgument :=
  if_neg h

theorem readUid_ok {b : Word} (h : 100 ≤ b.toNat ∧ b.toNat ≤ 115) : readUid b = .ok b.toNat :=
  if_neg (by omega)

theorem readUid_error {b : Word} (h : ¬ (100 ≤ b.toNat ∧ b.toNat ≤ 115)) :
    readUid b = .error .invalidUnit :=
  if_pos (by omega)

theorem readWordNumber_ok {a : Word} (h : 1 ≤ a.toNat ∧ a.toNat ≤ 3) :
    readWordNumber a = .ok a.toNat :=
  if_neg (by omega)

theorem readWordNumber_error {a : Word} (h : ¬ (1 ≤ a.toNat ∧ a.toNat ≤ 3)) :
    readWordNumber a = .error .invalidArgument :=
  if_pos (by omega)

theorem readTenths_ok {b : Word} (h : -1279 ≤ b.toInt ∧ b.toInt ≤ 1279) :
    readTenths b = .ok b.toInt :=
  if_neg (by unfold s16; omega)

theorem readTenths_error {b : Word} (h : ¬ (-1279 ≤ b.toInt ∧ b.toInt ≤ 1279)) :
    readTenths b = .error .invalidArgument :=
  if_pos (by unfold s16; omega)

theorem readHundredths_ok {b : Word} (h : -12790 ≤ b.toInt ∧ b.toInt ≤ 12790) :
    readHundredths b = .ok b.toInt :=
  if_neg (by unfold s16; omega)

theorem readHundredths_error {b : Word} (h : ¬ (-12790 ≤ b.toInt ∧ b.toInt ≤ 12790)) :
    readHundredths b = .error .invalidArgument :=
  if_pos (by unfold s16; omega)

theorem readDescriptor_ok {b : Word}
    (h : b.toNat < 0x100 ∧ b.toNat % 16 + (b.toNat / 16 % 16 + 1) ≤ 16) :
    readDescriptor b = .ok (b.toNat % 16, b.toNat / 16 % 16 + 1) := by
  have h8 : field b 8 8 = 0 := by
    apply BitVec.eq_of_toNat_eq
    rw [field_toNat _ _ _ (by omega)]
    show b.toNat / 256 % 256 = 0
    omega
  have h0 : (field b 0 4).toNat = b.toNat % 16 := by
    rw [field_toNat _ _ _ (by omega)]; omega
  have h4 : (field b 4 4).toNat = b.toNat / 16 % 16 := field_toNat _ _ _ (by omega)
  unfold readDescriptor
  simp only [h8, h0, h4]
  exact if_neg (by simp; omega)

theorem readDescriptor_error {b : Word}
    (h : ¬ (b.toNat < 0x100 ∧ b.toNat % 16 + (b.toNat / 16 % 16 + 1) ≤ 16)) :
    readDescriptor b = .error .invalidArgument := by
  have h0 : (field b 0 4).toNat = b.toNat % 16 := by
    rw [field_toNat _ _ _ (by omega)]; omega
  have h4 : (field b 4 4).toNat = b.toNat / 16 % 16 := field_toNat _ _ _ (by omega)
  unfold readDescriptor
  simp only [h0, h4]
  apply if_pos
  by_cases hb : b.toNat < 0x100
  · exact .inr (by omega)
  · refine .inl fun hz => ?_
    have h8 := congrArg BitVec.toNat hz
    rw [field_toNat _ _ _ (by omega)] at h8
    have : b.toNat / 256 % 256 = 0 := h8
    have := b.isLt
    omega

end Sys2Proof.Machine
end

