-- ==== Sys2Proof/Laws/State.lean ====
section
/-! SUPPORT. One lemma for each field of State under each shared update. -/

namespace Sys2Proof.Machine

@[simp] theorem reset_crc : State.reset.crc = 0xFFFF := rfl
@[simp] theorem reset_res : State.reset.res = 0 := rfl
@[simp] theorem reset_status : State.reset.status = 0 := rfl
@[simp] theorem reset_inputs : State.reset.inputs = [] := rfl

@[simp] theorem succeed_crc (w : Writes) (s : State) : (succeed w s).crc = w.crc.getD s.crc := rfl
@[simp] theorem succeed_res (w : Writes) (s : State) : (succeed w s).res = w.res.getD s.res := rfl
@[simp] theorem succeed_status (w : Writes) (s : State) :
    (succeed w s).status = statusOk w.lbl s.status := rfl
@[simp] theorem succeed_inputs (w : Writes) (s : State) : (succeed w s).inputs = s.inputs := rfl

@[simp] theorem raiseError_crc (e : BlockError) (s : State) : (raiseError e s).crc = s.crc := rfl
@[simp] theorem raiseError_res (e : BlockError) (s : State) : (raiseError e s).res = s.res := rfl
@[simp] theorem raiseError_status (e : BlockError) (s : State) :
    (raiseError e s).status = statusError e s.status := rfl
@[simp] theorem raiseError_inputs (e : BlockError) (s : State) : (raiseError e s).inputs = s.inputs := rfl

@[simp] theorem resetRegisters_crc (s : State) : (resetRegisters s).crc = 0xFFFF := rfl
@[simp] theorem resetRegisters_res (s : State) : (resetRegisters s).res = 0 := rfl
@[simp] theorem resetRegisters_status (s : State) : (resetRegisters s).status = 0 := rfl
@[simp] theorem resetRegisters_inputs (s : State) : (resetRegisters s).inputs = s.inputs := rfl

@[simp] theorem withFetchWord_crc (s : State) (nbits w : Nat) :
    (s.withFetchWord nbits w).crc = s.crc := rfl
@[simp] theorem withFetchWord_res (s : State) (nbits w : Nat) :
    (s.withFetchWord nbits w).res = s.res := rfl
@[simp] theorem withFetchWord_status (s : State) (nbits w : Nat) :
    (s.withFetchWord nbits w).status = s.status := rfl
@[simp] theorem withFetchWord_inputs (s : State) (nbits w : Nat) :
    (s.withFetchWord nbits w).inputs = inputOfWord (tableWord nbits w) :: s.inputs := rfl

end Sys2Proof.Machine
end

