-- ==== Sys2Proof/Laws/Ops.lean ====
section
/-! SUPPORT. Everything each shared operation can do, once: the provers cite these and do not unfold the
operations. -/

namespace Sys2Proof.Machine

@[simp] theorem complete_ok (w : Writes) (s : State) :
    complete (.ok w) s = .next (succeed w s) := rfl

@[simp] theorem complete_error (e : BlockError) (s : State) :
    complete (.error e) s = .next (raiseError e s) := rfl

@[simp] theorem completeRes_ok (v : Word) (s : State) :
    completeRes (.ok v) s = .next (succeed { res := some v } s) := rfl

@[simp] theorem completeRes_error (e : BlockError) (s : State) :
    completeRes (.error e) s = .next (raiseError e s) := rfl

@[simp] theorem completeLabelled_eq (code : Word) (lbl : Bool) (s : State) :
    completeLabelled code lbl s = .next (succeed { res := some code, lbl := lbl } s) := rfl

/-- All that the end of a command can do: its writes when it succeeds, its error when it raises one. -/
theorem complete_cases {r : Except BlockError Writes} {s t : State} (h : complete r s = .next t) :
    (∃ w, r = .ok w ∧ t = succeed w s) ∨ (∃ e, r = .error e ∧ t = raiseError e s) := by
  cases r with
  | ok w => exact .inl ⟨w, rfl, by simpa using h.symm⟩
  | error e => exact .inr ⟨e, rfl, by simpa using h.symm⟩

/-- All that a step can do: nothing is presented, or the first presentation acts on the registers. -/
theorem step_cases (s : State) :
    (s.inputs = [] ∧ step s = .refused .noCommand) ∨
      (∃ p rest, s.inputs = p :: rest ∧ step s = present p { s with inputs := rest }) := by
  cases s with
  | mk crc res status inputs =>
    cases inputs with
    | nil => exact .inl ⟨rfl, rfl⟩
    | cons p rest => exact .inr ⟨p, rest, rfl, rfl⟩

/-- The step of the input at the head of the list. -/
theorem step_cons (crc res status : Word) (p : HostInput) (rest : List HostInput) :
    step ⟨crc, res, status, p :: rest⟩ = present p ⟨crc, res, status, rest⟩ := rfl

/-- All that one presentation can do: reset, a command, or ILLEGAL_OP. -/
theorem present_cases (p : HostInput) (s : State) :
    (p.rst = true ∧ present p s = .next (resetRegisters s)) ∨
      (p.rst = false ∧ ∃ i, decode p.op p.a p.b = .ok i ∧ present p s = exec i s) ∨
      (p.rst = false ∧ ∃ e, decode p.op p.a p.b = .error e ∧
        present p s = .next (raiseError .illegalOp s)) := by
  unfold present
  cases hr : p.rst with
  | true => exact .inl ⟨rfl, rfl⟩
  | false =>
    cases hd : decode p.op p.a p.b with
    | ok i => exact .inr (.inl ⟨rfl, i, rfl, rfl⟩)
    | error e => exact .inr (.inr ⟨rfl, e, rfl, rfl⟩)

/-- A step shows the packed word it was given. -/
theorem step_withFetchWord (s : State) (nbits w : Nat) :
    step (s.withFetchWord nbits w) = present (inputOfWord (tableWord nbits w)) s := rfl

end Sys2Proof.Machine
end

