-- ==== Sys2Proof/Laws/Parametric.lean ====
section
/-! SUPPORT. The machine is the block at `Config.params`. -/

namespace Sys2Proof.Machine

theorem execWith_params (i : Instr) (s : State) : execWith Config.params i s = exec i s := by
  cases i <;> rfl

theorem presentWith_params (p : HostInput) (s : State) :
    presentWith Config.params p s = present p s := by
  unfold presentWith
  rw [funext₂ execWith_params]
  rfl

theorem stepWith_params (s : State) : stepWith Config.params s = step s := by
  unfold stepWith
  rw [funext₂ presentWith_params]
  rfl

end Sys2Proof.Machine
end

