-- ==== Sys2Proof/Laws/PerInstr.lean ====
section
/-! SUPPORT. Statements about each command as syntax, one lemma per constructor: its opcode and operand
kinds stand in one row of the opcode map (R74), and its word decodes by that opcode. -/

namespace Sys2Proof.Laws

/-- The command's opcode and operand kinds are a row of the opcode map. -/
def OpcodeMapRow.Statement (i : Instr) : Prop :=
  ∃ m, OpcodeRow.mk i.opcode m i.aKind i.bKind ∈ opcodeMap

theorem OpcodeMapRow.crcInit (a b : Word) : OpcodeMapRow.Statement (.crcInit a b) :=
  ⟨"CRC_INIT", by simp [opcodeMap, Instr.opcode, Instr.aKind, Instr.bKind]⟩
theorem OpcodeMapRow.crcByte (a b : Word) : OpcodeMapRow.Statement (.crcByte a b) :=
  ⟨"CRC_BYTE", by simp [opcodeMap, Instr.opcode, Instr.aKind, Instr.bKind]⟩
theorem OpcodeMapRow.crcRead (a b : Word) : OpcodeMapRow.Statement (.crcRead a b) :=
  ⟨"CRC_READ", by simp [opcodeMap, Instr.opcode, Instr.aKind, Instr.bKind]⟩
theorem OpcodeMapRow.crcCheck (a b : Word) : OpcodeMapRow.Statement (.crcCheck a b) :=
  ⟨"CRC_CHECK", by simp [opcodeMap, Instr.opcode, Instr.aKind, Instr.bKind]⟩
theorem OpcodeMapRow.w0SetPower (a b : Word) : OpcodeMapRow.Statement (.w0SetPower a b) :=
  ⟨"W0_SET_POWER", by simp [opcodeMap, Instr.opcode, Instr.aKind, Instr.bKind]⟩
theorem OpcodeMapRow.w0TogglePower (a b : Word) : OpcodeMapRow.Statement (.w0TogglePower a b) :=
  ⟨"W0_TOGGLE_POWER", by simp [opcodeMap, Instr.opcode, Instr.aKind, Instr.bKind]⟩
theorem OpcodeMapRow.w0SetFandir (a b : Word) : OpcodeMapRow.Statement (.w0SetFandir a b) :=
  ⟨"W0_SET_FANDIR", by simp [opcodeMap, Instr.opcode, Instr.aKind, Instr.bKind]⟩
theorem OpcodeMapRow.w0SetFanvol (a b : Word) : OpcodeMapRow.Statement (.w0SetFanvol a b) :=
  ⟨"W0_SET_FANVOL", by simp [opcodeMap, Instr.opcode, Instr.aKind, Instr.bKind]⟩
theorem OpcodeMapRow.w0Compound (a b : Word) : OpcodeMapRow.Statement (.w0Compound a b) :=
  ⟨"W0_COMPOUND", by simp [opcodeMap, Instr.opcode, Instr.aKind, Instr.bKind]⟩
theorem OpcodeMapRow.w1SetMode (a b : Word) : OpcodeMapRow.Statement (.w1SetMode a b) :=
  ⟨"W1_SET_MODE", by simp [opcodeMap, Instr.opcode, Instr.aKind, Instr.bKind]⟩
theorem OpcodeMapRow.w1FilterSet (a b : Word) : OpcodeMapRow.Statement (.w1FilterSet a b) :=
  ⟨"W1_FILTER_SET", by simp [opcodeMap, Instr.opcode, Instr.aKind, Instr.bKind]⟩
theorem OpcodeMapRow.w1FilterClr (a b : Word) : OpcodeMapRow.Statement (.w1FilterClr a b) :=
  ⟨"W1_FILTER_CLR", by simp [opcodeMap, Instr.opcode, Instr.aKind, Instr.bKind]⟩
theorem OpcodeMapRow.w1SetOpstat (a b : Word) : OpcodeMapRow.Statement (.w1SetOpstat a b) :=
  ⟨"W1_SET_OPSTAT", by simp [opcodeMap, Instr.opcode, Instr.aKind, Instr.bKind]⟩
theorem OpcodeMapRow.tempEncT (a b : Word) : OpcodeMapRow.Statement (.tempEncT a b) :=
  ⟨"TEMP_ENC_T", by simp [opcodeMap, Instr.opcode, Instr.aKind, Instr.bKind]⟩
theorem OpcodeMapRow.tempEncH (a b : Word) : OpcodeMapRow.Statement (.tempEncH a b) :=
  ⟨"TEMP_ENC_H", by simp [opcodeMap, Instr.opcode, Instr.aKind, Instr.bKind]⟩
theorem OpcodeMapRow.tempDec (a b : Word) : OpcodeMapRow.Statement (.tempDec a b) :=
  ⟨"TEMP_DEC", by simp [opcodeMap, Instr.opcode, Instr.aKind, Instr.bKind]⟩
theorem OpcodeMapRow.decPower (a b : Word) : OpcodeMapRow.Statement (.decPower a b) :=
  ⟨"DEC_POWER", by simp [opcodeMap, Instr.opcode, Instr.aKind, Instr.bKind]⟩
theorem OpcodeMapRow.decFandir (a b : Word) : OpcodeMapRow.Statement (.decFandir a b) :=
  ⟨"DEC_FANDIR", by simp [opcodeMap, Instr.opcode, Instr.aKind, Instr.bKind]⟩
theorem OpcodeMapRow.decFanvol (a b : Word) : OpcodeMapRow.Statement (.decFanvol a b) :=
  ⟨"DEC_FANVOL", by simp [opcodeMap, Instr.opcode, Instr.aKind, Instr.bKind]⟩
theorem OpcodeMapRow.decMode (a b : Word) : OpcodeMapRow.Statement (.decMode a b) :=
  ⟨"DEC_MODE", by simp [opcodeMap, Instr.opcode, Instr.aKind, Instr.bKind]⟩
theorem OpcodeMapRow.decOpstat (a b : Word) : OpcodeMapRow.Statement (.decOpstat a b) :=
  ⟨"DEC_OPSTAT", by simp [opcodeMap, Instr.opcode, Instr.aKind, Instr.bKind]⟩
theorem OpcodeMapRow.decReady (a b : Word) : OpcodeMapRow.Statement (.decReady a b) :=
  ⟨"DEC_READY", by simp [opcodeMap, Instr.opcode, Instr.aKind, Instr.bKind]⟩
theorem OpcodeMapRow.decLink (a b : Word) : OpcodeMapRow.Statement (.decLink a b) :=
  ⟨"DEC_LINK", by simp [opcodeMap, Instr.opcode, Instr.aKind, Instr.bKind]⟩
theorem OpcodeMapRow.decSbyteLo (a b : Word) : OpcodeMapRow.Statement (.decSbyteLo a b) :=
  ⟨"DEC_SBYTE_LO", by simp [opcodeMap, Instr.opcode, Instr.aKind, Instr.bKind]⟩
theorem OpcodeMapRow.decSbyteHi (a b : Word) : OpcodeMapRow.Statement (.decSbyteHi a b) :=
  ⟨"DEC_SBYTE_HI", by simp [opcodeMap, Instr.opcode, Instr.aKind, Instr.bKind]⟩
theorem OpcodeMapRow.extract (a b : Word) : OpcodeMapRow.Statement (.extract a b) :=
  ⟨"EXTRACT", by simp [opcodeMap, Instr.opcode, Instr.aKind, Instr.bKind]⟩
theorem OpcodeMapRow.addrStatus (a b : Word) : OpcodeMapRow.Statement (.addrStatus a b) :=
  ⟨"ADDR_STATUS", by simp [opcodeMap, Instr.opcode, Instr.aKind, Instr.bKind]⟩
theorem OpcodeMapRow.addrCap (a b : Word) : OpcodeMapRow.Statement (.addrCap a b) :=
  ⟨"ADDR_CAP", by simp [opcodeMap, Instr.opcode, Instr.aKind, Instr.bKind]⟩
theorem OpcodeMapRow.addrCtrl (a b : Word) : OpcodeMapRow.Statement (.addrCtrl a b) :=
  ⟨"ADDR_CTRL", by simp [opcodeMap, Instr.opcode, Instr.aKind, Instr.bKind]⟩
theorem OpcodeMapRow.clrErr (a b : Word) : OpcodeMapRow.Statement (.clrErr a b) :=
  ⟨"CLR_ERR", by simp [opcodeMap, Instr.opcode, Instr.aKind, Instr.bKind]⟩

end Sys2Proof.Laws
end

