-- ==== Sys2Proof/Laws/Run.lean ====
section
/-! SUPPORT. A run over a list of inputs, one input at a time. -/

namespace Sys2Proof.Machine

/-- One more step of a run. -/
theorem run_succ (M : Host.Core) (k : Nat) (s : M.State) :
    M.run (k + 1) s = (match M.step s with
      | .next t => M.run k t
      | .fault r => .fault r
      | .refused r => .refused r) := rfl

@[simp] theorem runInputs_nil (s : State) : runInputs s [] = .next { s with inputs := [] } := rfl

/-- The run goes on from the state the first presentation leaves. -/
theorem runInputs_cons (s t : State) (p : HostInput) (ps : List HostInput)
    (h : present p { s with inputs := ps } = .next t) (hi : t.inputs = ps) :
    runInputs s (p :: ps) = runInputs t ps := by
  subst hi
  refine (run_succ Sys2Proof.core t.inputs.length _).trans ?_
  rw [show Sys2Proof.core.step ({ s with inputs := p :: t.inputs } : State) = .next t from h]
  rfl

end Sys2Proof.Machine
end

