-- ==== Sys2Proof/Machine/AssemblyText.lean ====
section
/-! DEFINITION. The text of an assembly program (R77, R78): each line read as the commands the host
issues for it, or refused. -/

namespace Sys2Proof.Machine

/-- The pieces of a text between separators, empty ones included. -/
def splitText (sep : Char → Bool) : List Char → List (List Char)
  | [] => [[]]
  | c :: cs =>
    if sep c then [] :: splitText sep cs
    else match splitText sep cs with
      | [] => [[c]]
      | piece :: pieces => (c :: piece) :: pieces

/-- A blank: a space or a tab. -/
def isBlank (c : Char) : Bool := c == ' ' || c == '\t'

/-- The blank-separated words of a text. -/
def textWords (cs : List Char) : List (List Char) := (splitText isBlank cs).filter fun w => !w.isEmpty

/-- The value of a digit: 0 to 9, then a to f in either case. -/
def digitOf (c : Char) : Option Nat :=
  let n := c.toNat
  if 48 ≤ n ∧ n ≤ 57 then some (n - 48)
  else if 97 ≤ n ∧ n ≤ 102 then some (n - 87)
  else if 65 ≤ n ∧ n ≤ 70 then some (n - 55)
  else none

/-- The number the digits `cs` continue from `acc`, or none where one is no digit of the base. -/
def readDigits (base : Nat) : Nat → List Char → Option Nat
  | acc, [] => some acc
  | acc, c :: cs =>
    match digitOf c with
    | some d => if d < base then readDigits base (base * acc + d) cs else none
    | none => none

/-- A number in the base, of at least one digit. -/
def readNat (base : Nat) (cs : List Char) : Option Nat :=
  if cs.isEmpty then none else readDigits base 0 cs

/-- A value: decimal, hexadecimal with a `0x` prefix, or a negative decimal (R77). -/
def readValue : List Char → Option Int
  | '0' :: 'x' :: cs => (readNat 16 cs).map Int.ofNat
  | '-' :: cs => (readNat 10 cs).map fun n => -(Int.ofNat n)
  | cs => (readNat 10 cs).map Int.ofNat

/-- The operands `[a=<value>] [b=<value>]` (R77). -/
def readOperands : List (List Char) → Option (Option Int × Option Int)
  | [] => some (none, none)
  | ['a' :: '=' :: v] => (readValue v).map fun a => (some a, none)
  | ['b' :: '=' :: w] => (readValue w).map fun b => (none, some b)
  | ['a' :: '=' :: v, 'b' :: '=' :: w] =>
    match readValue v, readValue w with
    | some a, some b => some (some a, some b)
    | _, _ => none
  | _ => none

/-- The opcode of a mnemonic (R74). -/
def opcodeOf (name : String) : Option Byte :=
  (opcodeMap.find? fun row => row.mnemonic == name).map OpcodeRow.op

/-- The command of a line with this mnemonic and these words after it (R77). -/
def assembleCommand (name : String) (ws : List (List Char)) : Option Instr :=
  match opcodeOf name, readOperands ws with
  | some op, some (a, b) => assemble { op := op, a := a, b := b }
  | _, _ => none

/-- A temperature in degrees, with or without a decimal point (R78). DESIGN CHOICE (assumption 20): the two
decimal places of R78 are those of the value, so `24.000` is admitted; a sign `+`, and a point with no
digit before or after it, are refused. -/
def readDegrees : List Char → Option Rat
  | '-' :: cs => (unsigned cs).map fun d => -d
  | cs => unsigned cs
where
  /-- Without the sign: the digits with the point left out, over the power of ten it stands for. -/
  unsigned (cs : List Char) : Option Rat :=
    match splitText (fun c => c == '.') cs with
    | [whole] => (readNat 10 whole).map fun n => (n : Rat)
    | [whole, part] =>
      if whole.isEmpty ∨ part.isEmpty then none
      else (readNat 10 (whole ++ part)).map fun n => (n : Rat) / ((10 ^ part.length : Nat) : Rat)
    | _ => none

/-- The arguments of a pseudo-instruction: one word between each two commas (R78). -/
def macroArguments (cs : List Char) : Option (List (List Char)) :=
  if (textWords cs).isEmpty then some []
  else (splitText (fun c => c == ',') cs).mapM fun piece =>
    match textWords piece with
    | [w] => some w
    | _ => none

/-- A register-word, code or byte argument of a pseudo-instruction: a value that fits the operand. -/
def readWord (cs : List Char) : Option Word := (readValue cs).bind fun v => assembleOperand .word (some v)

/-- The expansion of a pseudo-instruction, or none where the name is no pseudo-instruction's or the
arguments are not its own (R78). -/
def expandMacro (name : String) (args : List (List Char)) : Option (List Instr) :=
  if name == "CRC_FRAME" then
    (args.mapM readWord).map fun xs => .crcInit 0 0 :: (xs.map (Instr.crcByte 0) ++ [.crcRead 0 0])
  else if name == "CRC_WORD" then
    match args.mapM readWord with
    | some [w] => some (crcWord w)
    | _ => none
  else if name == "SETPOINT_C" then
    match args with
    | [deg] => ((readDegrees deg).bind setpointC).map fun i => [i]
    | _ => none
  else if name == "COMPOUND" then
    match args with
    | [w0, w1, vol, mode, deg] =>
      match [w0, w1, vol, mode].mapM readWord, readDegrees deg with
      | some [v0, v1, v, m], some d => compound v0 v1 v m d
      | _, _ => none
    | _ => none
  else if name == "LINKMAP" then
    match args.mapM readWord with
    | some [w] => some (linkMap w)
    | _ => none
  else none

/-- The commands of one line, or none where the assembler refuses it. A comment starts with `;`, and a
line with nothing else stands for no command (R77, R78; assumption 16). -/
def assembleLine (line : String) : Option (List Instr) :=
  let code := line.toList.takeWhile fun c => c != ';'
  match textWords code with
  | [] => some []
  | m :: ws =>
    let name := String.ofList m
    match assembleCommand name ws with
    | some i => some [i]
    | none =>
      (macroArguments ((code.dropWhile isBlank).drop m.length)).bind (expandMacro name)

/-- The commands of a program, one line after another (R77). -/
def assembleProgram (lines : List String) : Option (List Instr) :=
  (lines.mapM assembleLine).map List.flatten

end Sys2Proof.Machine
end

