-- ==== Sys2Proof/Tests/Slice0.lean ====
section
/-! SUPPORT. Tests whose expected values are the spec's own (95_test_vectors.md, the examples and corner
cases of the rules), decodings of words written out from R70 and R74, the smoke test of WellFormed, and a
witness for the hypotheses of each statement. -/

namespace Sys2Proof.Tests

open Sys2Proof.Machine Sys2Proof.Claims

/-! ### Decoding: a word of each command, `op` in bits 39:32, `a` in 31:16, `b` in 15:0 -/

theorem test_decode_crcInit : decodeWord 0x0112345678 = .ok (.crcInit 0x1234 0x5678) := rfl
theorem test_decode_crcByte : decodeWord 0x0212345678 = .ok (.crcByte 0x1234 0x5678) := rfl
theorem test_decode_crcRead : decodeWord 0x0312345678 = .ok (.crcRead 0x1234 0x5678) := rfl
theorem test_decode_crcCheck : decodeWord 0x0412345678 = .ok (.crcCheck 0x1234 0x5678) := rfl
theorem test_decode_w0SetPower : decodeWord 0x1012345678 = .ok (.w0SetPower 0x1234 0x5678) := rfl
theorem test_decode_w0TogglePower : decodeWord 0x1112345678 = .ok (.w0TogglePower 0x1234 0x5678) := rfl
theorem test_decode_w0SetFandir : decodeWord 0x1212345678 = .ok (.w0SetFandir 0x1234 0x5678) := rfl
theorem test_decode_w0SetFanvol : decodeWord 0x1312345678 = .ok (.w0SetFanvol 0x1234 0x5678) := rfl
theorem test_decode_w0Compound : decodeWord 0x1412345678 = .ok (.w0Compound 0x1234 0x5678) := rfl
theorem test_decode_w1SetMode : decodeWord 0x2012345678 = .ok (.w1SetMode 0x1234 0x5678) := rfl
theorem test_decode_w1FilterSet : decodeWord 0x2112345678 = .ok (.w1FilterSet 0x1234 0x5678) := rfl
theorem test_decode_w1FilterClr : decodeWord 0x2212345678 = .ok (.w1FilterClr 0x1234 0x5678) := rfl
theorem test_decode_w1SetOpstat : decodeWord 0x2312345678 = .ok (.w1SetOpstat 0x1234 0x5678) := rfl
theorem test_decode_tempEncT : decodeWord 0x3012345678 = .ok (.tempEncT 0x1234 0x5678) := rfl
theorem test_decode_tempEncH : decodeWord 0x3112345678 = .ok (.tempEncH 0x1234 0x5678) := rfl
theorem test_decode_tempDec : decodeWord 0x3212345678 = .ok (.tempDec 0x1234 0x5678) := rfl
theorem test_decode_decPower : decodeWord 0x4012345678 = .ok (.decPower 0x1234 0x5678) := rfl
theorem test_decode_decFandir : decodeWord 0x4112345678 = .ok (.decFandir 0x1234 0x5678) := rfl
theorem test_decode_decFanvol : decodeWord 0x4212345678 = .ok (.decFanvol 0x1234 0x5678) := rfl
theorem test_decode_decMode : decodeWord 0x4312345678 = .ok (.decMode 0x1234 0x5678) := rfl
theorem test_decode_decOpstat : decodeWord 0x4412345678 = .ok (.decOpstat 0x1234 0x5678) := rfl
theorem test_decode_decReady : decodeWord 0x4512345678 = .ok (.decReady 0x1234 0x5678) := rfl
theorem test_decode_decLink : decodeWord 0x4612345678 = .ok (.decLink 0x1234 0x5678) := rfl
theorem test_decode_decSbyteLo : decodeWord 0x4712345678 = .ok (.decSbyteLo 0x1234 0x5678) := rfl
theorem test_decode_decSbyteHi : decodeWord 0x4812345678 = .ok (.decSbyteHi 0x1234 0x5678) := rfl
theorem test_decode_extract : decodeWord 0x4912345678 = .ok (.extract 0x1234 0x5678) := rfl
theorem test_decode_addrStatus : decodeWord 0x5012345678 = .ok (.addrStatus 0x1234 0x5678) := rfl
theorem test_decode_addrCap : decodeWord 0x5112345678 = .ok (.addrCap 0x1234 0x5678) := rfl
theorem test_decode_addrCtrl : decodeWord 0x5212345678 = .ok (.addrCtrl 0x1234 0x5678) := rfl
theorem test_decode_clrErr : decodeWord 0x7F12345678 = .ok (.clrErr 0x1234 0x5678) := rfl

theorem test_decode_illegal_00 : decodeWord 0x0012345678 = .error (.illegalOp 0x00) := rfl
theorem test_decode_illegal_7E : decodeWord 0x7E12345678 = .error (.illegalOp 0x7E) := rfl
theorem test_decode_illegal_FF : decodeWord 0xFF12345678 = .error (.illegalOp 0xFF) := rfl
theorem test_decodeTableWord : decodeTableWord 40 0x5200030066 = some (.addrCtrl 3 102) := rfl

/-! ### WellFormed: an ill-formed operand for each check of R72 and R101, refused -/

theorem test_illFormed_code1 : (Instr.w0SetPower 0 2).wellFormed = false := by decide
theorem test_illFormed_code3 : (Instr.w0SetFandir 0 8).wellFormed = false := by decide
theorem test_illFormed_code4 : (Instr.w1SetMode 0 16).wellFormed = false := by decide
theorem test_illFormed_byte : (Instr.crcByte 0 0x100).wellFormed = false := by decide
theorem test_illFormed_uid_low : (Instr.addrStatus 0 99).wellFormed = false := by decide
theorem test_illFormed_uid_high : (Instr.addrStatus 0 116).wellFormed = false := by decide
theorem test_illFormed_wordNumber_low : (Instr.addrCtrl 0 100).wellFormed = false := by decide
theorem test_illFormed_wordNumber_high : (Instr.addrCtrl 4 100).wellFormed = false := by decide
theorem test_illFormed_tenths_high : (Instr.tempEncT 0 0x0500).wellFormed = false := by decide
theorem test_illFormed_tenths_low : (Instr.tempEncT 0 0xFB00).wellFormed = false := by decide
theorem test_illFormed_hundredths_high : (Instr.tempEncH 0 12791).wellFormed = false := by decide
theorem test_illFormed_hundredths_low : (Instr.tempEncH 0 (BitVec.ofInt 16 (-12791))).wellFormed = false := by decide
theorem test_illFormed_descriptor_high_byte : (Instr.extract 0 0x100).wellFormed = false := by decide
theorem test_illFormed_descriptor_past_bit_15 : (Instr.extract 0 0x1F).wellFormed = false := by decide
theorem test_wellFormed_uid : (Instr.addrStatus 0 115).wellFormed = true := by decide
theorem test_wellFormed_tenths : (Instr.tempEncT 0 0xFB01).wellFormed = true := by decide
theorem test_wellFormed_hundredths : (Instr.tempEncH 0 12790).wellFormed = true := by decide
theorem test_wellFormed_descriptor : (Instr.extract 0 0xF0).wellFormed = true := by decide

/-! ### The vectors of 95_test_vectors.md section 2: RES, STATUS and CRC after one command -/

/-- RES, STATUS and CRC of a next state. -/
def registers : Host.Outcome State Fault Refusal → Option (Word × Word × Word)
  | .next t => some (t.res, t.status, t.crc)
  | .fault _ => none
  | .refused _ => none

/-- One step that presents a command, from RES = 0xAAAA, STATUS = 0 and the given CRC. -/
def after (i : Instr) (crc : Word := 0xFFFF) : Option (Word × Word × Word) :=
  registers (step { crc := crc, res := 0xAAAA, status := 0, inputs := [inputOf i] })

theorem test_crcInit :
    after (.crcInit 0 0) 0x1234 = some (0xAAAA, 0x0000, 0xFFFF) := by decide
theorem test_crcByte :
    after (.crcByte 0 0x01) 0xFFFF = some (0xAAAA, 0x0000, 0x807E) := by decide
theorem test_crcByte_wide :
    after (.crcByte 0 0x100) 0xFFFF = some (0xAAAA, 0x000B, 0xFFFF) := by decide
theorem test_crcRead :
    after (.crcRead 0 0) 0xCDC5 = some (0xCDC5, 0x0000, 0xCDC5) := by decide
theorem test_crcCheck_zero :
    after (.crcCheck 0 0) 0x0000 = some (0x0001, 0x0000, 0x0000) := by decide
theorem test_crcCheck_swapped :
    after (.crcCheck 0 0) 0x0606 = some (0x0000, 0x0000, 0x0606) := by decide
theorem test_w0SetPower :
    after (.w0SetPower 0x1234 1) = some (0x1235, 0x0000, 0xFFFF) := by decide
theorem test_w0SetPower_two :
    after (.w0SetPower 0x1234 2) = some (0xAAAA, 0x000B, 0xFFFF) := by decide
theorem test_w0TogglePower :
    after (.w0TogglePower 0x5061 0) = some (0x5060, 0x0000, 0xFFFF) := by decide
theorem test_w0SetFandir_all_ones :
    after (.w0SetFandir 0xFFFF 0) = some (0xF8FF, 0x0000, 0xFFFF) := by decide
theorem test_w0SetFandir_swing :
    after (.w0SetFandir 0x0001 7) = some (0x0761, 0x0000, 0xFFFF) := by decide
theorem test_w0SetFanvol_all_ones :
    after (.w0SetFanvol 0xFFFF 1) = some (0x9FFF, 0x0000, 0xFFFF) := by decide
theorem test_w0SetFanvol_eight :
    after (.w0SetFanvol 0x0000 8) = some (0xAAAA, 0x000B, 0xFFFF) := by decide
theorem test_w0Compound :
    after (.w0Compound 0x7F00 1) = some (0x1F61, 0x0000, 0xFFFF) := by decide
theorem test_w0Compound_all_ones :
    after (.w0Compound 0xFFFE 0) = some (0x8FFF, 0x0000, 0xFFFF) := by decide
theorem test_w1SetMode :
    after (.w1SetMode 0x0F13 7) = some (0x0F17, 0x0000, 0xFFFF) := by decide
theorem test_w1SetMode_sixteen :
    after (.w1SetMode 0x0000 16) = some (0xAAAA, 0x000B, 0xFFFF) := by decide
theorem test_w1FilterSet :
    after (.w1FilterSet 0x0002 0) = some (0x00F2, 0x0000, 0xFFFF) := by decide
theorem test_w1FilterClr :
    after (.w1FilterClr 0xFFFF 0) = some (0xFF0F, 0x0000, 0xFFFF) := by decide
theorem test_w1SetOpstat :
    after (.w1SetOpstat 0xFFFF 0) = some (0xF0FF, 0x0000, 0xFFFF) := by decide
theorem test_w1SetOpstat_fifteen :
    after (.w1SetOpstat 0x0000 15) = some (0x0F00, 0x0000, 0xFFFF) := by decide
theorem test_tempEncT_low :
    after (.tempEncT 0 0xFB01) = some (0xFB01, 0x0000, 0xFFFF) := by decide
theorem test_tempEncT_below :
    after (.tempEncT 0 0xFB00) = some (0xAAAA, 0x000B, 0xFFFF) := by decide
theorem test_tempEncH_negative :
    after (.tempEncH 0 (BitVec.ofInt 16 (-550))) = some (0xFFC9, 0x0000, 0xFFFF) := by decide
theorem test_tempEncH_over :
    after (.tempEncH 0 12794) = some (0xAAAA, 0x000B, 0xFFFF) := by decide
theorem test_tempDec :
    after (.tempDec 0xFFCD 0) = some (0xFFCD, 0x0000, 0xFFFF) := by decide
theorem test_decPower :
    after (.decPower 0xFFFE 0) = some (0x0000, 0x0000, 0xFFFF) := by decide
theorem test_decFandir :
    after (.decFandir 0x5361 0) = some (0x0003, 0x0010, 0xFFFF) := by decide
theorem test_decFanvol_high_bit :
    after (.decFanvol 0x8000 0) = some (0x0000, 0x0000, 0xFFFF) := by decide
theorem test_decFanvol :
    after (.decFanvol 0x5361 0) = some (0x0005, 0x0010, 0xFFFF) := by decide
theorem test_decMode :
    after (.decMode 0x00F3 0) = some (0x0003, 0x0010, 0xFFFF) := by decide
theorem test_decMode_unknown :
    after (.decMode 0x0004 0) = some (0x0004, 0x0000, 0xFFFF) := by decide
theorem test_decReady :
    after (.decReady 0xFFFE 0) = some (0x0000, 0x0000, 0xFFFF) := by decide
theorem test_decLink_top :
    after (.decLink 0x8000 115) = some (0x0001, 0x0000, 0xFFFF) := by decide
theorem test_decLink_bad_uid :
    after (.decLink 0xFFFF 116) = some (0xAAAA, 0x000A, 0xFFFF) := by decide
theorem test_decSbyteLo :
    after (.decSbyteLo 0x1E80 0) = some (0xFF80, 0x0000, 0xFFFF) := by decide
theorem test_decSbyteHi :
    after (.decSbyteHi 0xF610 0) = some (0xFFF6, 0x0000, 0xFFFF) := by decide
theorem test_extract :
    after (.extract 0x5361 0x2C) = some (0x0005, 0x0000, 0xFFFF) := by decide
theorem test_extract_whole :
    after (.extract 0x1234 0xF0) = some (0x1234, 0x0000, 0xFFFF) := by decide
theorem test_addrStatus :
    after (.addrStatus 0 115) = some (0x082A, 0x0000, 0xFFFF) := by decide
theorem test_addrCap :
    after (.addrCap 0 115) = some (0x0415, 0x0000, 0xFFFF) := by decide
theorem test_addrCtrl :
    after (.addrCtrl 3 102) = some (0x07D8, 0x0000, 0xFFFF) := by decide
theorem test_addrCtrl_both_bad :
    after (.addrCtrl 0 99) = some (0xAAAA, 0x000A, 0xFFFF) := by decide

/-- P5, row 5: a labelled success after an error keeps STK. -/
theorem test_stk_survives_success :
    registers (exec (.decMode 0x0007 0) { crc := 0xFFFF, res := 0x00F2, status := 0x000A, inputs := [] })
      = some (0x0007, 0x0018, 0xFFFF) := by decide

/-- P5, row 8. -/
theorem test_clrErr :
    registers (exec (.clrErr 0 0) { crc := 0xFFFF, res := 0x0007, status := 0x000B, inputs := [] })
      = some (0x0007, 0x0000, 0xFFFF) := by decide

/-- P5, row 6: the raw command word 60 0000 0000. -/
theorem test_illegal_op :
    registers (step (({ crc := 0xFFFF, res := 0x0007, status := 0x0018, inputs := [] } :
      State).withFetchWord 40 0x6000000000)) = some (0x0007, 0x0009, 0xFFFF) := by decide

theorem test_reset_input :
    registers (step { crc := 0x1234, res := 0xAAAA, status := 0x000B,
                      inputs := [{ rst := true, op := 0x03, a := 0, b := 0 }] })
      = some (0x0000, 0x0000, 0xFFFF) := by decide

/-- DEC_OPSTAT's RES never depends on P_OPSTAT_LABEL (R169). -/
theorem test_decOpstat : (after (.decOpstat 0x0A00 0)).map Prod.fst = some 0x000A := rfl

/-- DEC_FANDIR's RES never depends on P_FANDIR_LABEL (R166). -/
theorem test_decFandir_open : (after (.decFandir 0x0500 0)).map Prod.fst = some 0x0005 := rfl

/-- DEC_FANDIR of code 5 with P_FANDIR_LABEL as an argument (R166). -/
theorem test_decFandirWith :
    registers (execDecFandirWith .stop .noLabel 0x0500 State.reset) = some (5, 0x0010, 0xFFFF) ∧
      registers (execDecFandirWith .noLabel .stop 0x0500 State.reset) = some (5, 0, 0xFFFF) := by
  decide

/-- The ties of 95_test_vectors.md section 2.4 under HALF_EVEN and under HALF_AWAY. -/
theorem test_ties :
    ([12785, 5, -5, 25, -25, 15, -15].map (roundDiv10 .halfEven) = [1278, 0, 0, 2, -2, 2, -2]) ∧
      ([12785, 5, -5, 25, -25, 15, -15].map (roundDiv10 .halfAway) = [1279, 1, -1, 3, -3, 2, -2]) := by
  decide

/-! ### Frames, macros and host sequences: 95_test_vectors.md sections 3 and 4 -/

/-- P1's commit frame. -/
theorem test_frame_writeSingle :
    (Transaction.writeSingle 0x07D8 0x00F0).request 0x01
      = [0x01, 0x06, 0x07, 0xD8, 0x00, 0xF0, 0x08, 0xC1] := by decide +kernel

/-- P2's commit frame and its response. -/
theorem test_frame_writeMultiple :
    (Transaction.writeMultiple 0x07D6 [0x5061, 0x0002, 0x00F0]).request 0x01
      = [0x01, 0x10, 0x07, 0xD6, 0x00, 0x03, 0x06, 0x50, 0x61, 0x00, 0x02, 0x00, 0xF0, 0x08, 0x5E] ∧
    (Transaction.writeMultiple 0x07D6 [0x5061, 0x0002, 0x00F0]).response 0x01 []
      = [0x01, 0x10, 0x07, 0xD6, 0x00, 0x03, 0x60, 0x84] := by decide +kernel

/-- P4's request and response, and the exception response of section 3. -/
theorem test_frame_readInput :
    (Transaction.readInput 1 1).request 0x01 = [0x01, 0x04, 0x00, 0x01, 0x00, 0x01, 0x60, 0x0A] ∧
    (Transaction.readInput 1 1).response 0x01 [0x0003]
      = [0x01, 0x04, 0x02, 0x00, 0x03, 0xF9, 0x31] ∧
    exceptionResponse 0x01 0x06 0x02 = [0x01, 0x86, 0x02, 0xC3, 0xA1] := by decide +kernel

/-- The classic frame is valid, and with its CRC bytes swapped it is not. -/
theorem test_frameValid :
    frameValid [0x01, 0x03, 0x00, 0x00, 0x00, 0x0A, 0xC5, 0xCD] = true ∧
      frameValid [0x01, 0x03, 0x00, 0x00, 0x00, 0x0A, 0xCD, 0xC5] = false := by decide +kernel

/-- R77's examples. -/
theorem test_assemble :
    assemble { op := 0x13, a := some 0x0001, b := some 5 } = some (.w0SetFanvol 1 5) ∧
    assemble { op := 0x31, b := some (-550) } = some (.tempEncH 0 (BitVec.ofInt 16 (-550))) ∧
    assemble { op := 0x52, a := some 3, b := some 102 } = some (.addrCtrl 3 102) ∧
    assemble { op := 0x02, b := some (-1) } = none ∧
    assemble { op := 0x02, a := some 0, b := some 6 } = none := by decide

/-- R77's examples as text. -/
theorem test_assembleLine :
    assembleLine "W0_SET_FANVOL a=0x0001 b=5" = some [.w0SetFanvol 1 5] ∧
    assembleLine "  TEMP_ENC_H b=-550 ; -5.5 degrees" = some [.tempEncH 0 (BitVec.ofInt 16 (-550))] ∧
    assembleLine "CRC_BYTE b=0x06" = some [.crcByte 0 6] ∧
    assembleLine "ADDR_CTRL a=3 b=102" = some [.addrCtrl 3 102] ∧
    assembleLine "; a comment" = some [] ∧ assembleLine "CRC_BYTE b=6 a=0" = none ∧
    assembleLine "NO_OP" = none := by decide +kernel

/-- Every row of the opcode map belongs to a family of R71. -/
theorem test_familyOf :
    (opcodeMap.map fun row => familyOf row.op)
      = List.replicate 4 (some .crc) ++ List.replicate 5 (some .word0) ++
        List.replicate 4 (some .word1) ++ List.replicate 3 (some .temperature) ++
        List.replicate 10 (some .decoder) ++ List.replicate 3 (some .address) ++ [some .control] := by
  decide

/-- R78's pseudo-instructions as text. -/
theorem test_assembleProgram :
    assembleProgram ["CRC_FRAME 0x01, 3", "CRC_WORD 0x07D6", "SETPOINT_C -5.50"]
      = some [.crcInit 0 0, .crcByte 0 1, .crcByte 0 3, .crcRead 0 0, .crcByte 0 0x07, .crcByte 0 0xD6,
          .tempEncH 0 (BitVec.ofInt 16 (-550))] ∧
    assembleProgram ["COMPOUND 0, 0x0001, 5, 2, 24.0"]
      = some [.w0Compound 0 5, .w1SetMode 1 2, .tempEncH 0 2400] ∧
    (assembleLine "LINKMAP 3").map List.length = some 16 ∧
    assembleLine "SETPOINT_C 24.005" = none := by decide +kernel

/-- SETPOINT_C admits at most two decimal places (R78): 24.0 and -5.5, not 24.005. -/
theorem test_setpointC :
    setpointC 24 = some (.tempEncH 0 2400) ∧
    setpointC (-11 / 2) = some (.tempEncH 0 (BitVec.ofInt 16 (-550))) ∧
    setpointC (4801 / 200) = none := by decide +kernel

/-- The COMPOUND macro of P2. -/
theorem test_compound :
    compound 0x0000 0x0001 5 2 24 = some [.w0Compound 0 5, .w1SetMode 1 2, .tempEncH 0 2400] := by
  decide +kernel

/-- The parameters of 95_test_vectors.md: slave address 0x01. -/
def vectorParams : Params := { Config.params with slaveAddrLessOne := 0 }

/-- P2: the compound write of unit 102 (mode cooling, fan volume high, 24.0 degrees). -/
theorem test_compound_plan :
    HostOp.plan vectorParams 102 ⟨0x0000, 0x0001, 0x00C8, 0, 0, 0⟩ (.compound 5 2 2400)
      = .ok [.send (.readInput 0x07DC 6), .send (.writeMultiple 0x07D6 [0x0000, 0x0001, 0x00C8]),
          .wait 500, .send (.writeMultiple 0x07D6 [0x5061, 0x0002, 0x00F0])] := rfl

/-- W4: a setpoint of 150.0 degrees ends with InvalidArgument and nothing is sent. -/
theorem test_setpoint_rejected :
    runOp vectorParams 102 (.setpointHundredths 15000) [] = ([], .error (.block .invalidArgument)) := rfl

/-- W8: three failing attempts, two delays, no fourth attempt. -/
theorem test_retry :
    runPlan vectorParams [.send (.readInput 0x07D6 6)] [[none, none, none, some []]]
      = ([.send (.readInput 0x07D6 6), .wait 1500, .send (.readInput 0x07D6 6), .wait 1500,
          .send (.readInput 0x07D6 6)], .error (.communicationError .timeout)) := by decide +kernel

/-- P4's response is good; with one byte changed it is a CRC mismatch; cut short it is a short read; under 3
bytes it is malformed (I26), be its CRC residue 0 or not; the exception response of section 3 is no
response. -/
theorem test_receive :
    receive 0x01 (.readInput 1 1) (some [0x01, 0x04, 0x02, 0x00, 0x03, 0xF9, 0x31]) = .ok [0x0003] ∧
    receive 0x01 (.readInput 1 1) (some [0x01, 0x04, 0x02, 0x00, 0x02, 0xF9, 0x31])
      = .error .crcMismatch ∧
    receive 0x01 (.readInput 1 1) (some [0x01, 0x04, 0x02, 0x00]) = .error .shortRead ∧
    receive 0x01 (.readInput 1 1) (some [0x01, 0x04]) = .error .malformedFrame ∧
    receive 0x01 (.readInput 1 1) (some [0xFF, 0xFF]) = .error .malformedFrame ∧
    receive 0x01 (.writeSingle 0x07D8 0x00F0) (some [0x01, 0x86, 0x02, 0xC3, 0xA1])
      = .error .malformedFrame := by decide +kernel

/-- R42: the bulk read's last word exists, and the address after it is not accessed (I17). -/
theorem test_namedAddress :
    namedAddress .input 2095 = true ∧ namedAddress .input 2096 = false ∧
      namedAddress .holding 2047 = true ∧ namedAddress .holding 1 = false := by decide

/-- R162: a limit at the low half of its word is decoded with DEC_SBYTE_LO, at the high half with
DEC_SBYTE_HI. -/
theorem test_capLimit :
    capFieldCommand { vectorParams with capLayout := fun _ => (1, 0, 7) } .coolingUpper 0x1E80
      = .decSbyteLo 0x1E80 0 ∧
    capFieldCommand { vectorParams with capLayout := fun _ => (1, 8, 7) } .coolingUpper 0x1E80
      = .decSbyteHi 0x1E80 0 := by decide

/-- W3: connection map 0x0003. -/
theorem test_linkFlags :
    linkFlags 0x0003 = [true, true] ++ List.replicate 14 false := by decide

/-- The rendered values of R107: 23.00 and -5.50. -/
theorem test_tempHundredths : tempHundredths 0x00E6 = 2300 ∧ tempHundredths 0xFFC9 = -550 := by decide

/-! ### Witnesses: for each statement with hypotheses, values that meet them, at the ends of each range -/

/-- A state that is about to run one command. -/
def ready (p : HostInput) : State := { State.reset with inputs := [p] }

theorem witness_UnassignedOpcodesAreIllegal :
    (ready ⟨false, 0x80, 0, 0⟩).inputs = ⟨false, 0x80, 0, 0⟩ :: [] ∧
      unassigned (0x80#8).toNat = true ∧ unassigned (0x00#8).toNat = true ∧
      unassigned (0xFF#8).toNat = true ∧ unassigned (0x7F#8).toNat = false := by decide

theorem witness_StepRunsPresentedCommand :
    (ready ⟨false, 0x52, 3, 102⟩).inputs = ⟨false, 0x52, 3, 102⟩ :: [] ∧
      decode 0x52 3 102 = .ok (.addrCtrl 3 102) := ⟨rfl, rfl⟩

theorem witness_ResetInputSetsEveryRegister :
    (ready ⟨true, 0x52, 3, 102⟩).inputs = ⟨true, 0x52, 3, 102⟩ :: [] := rfl

theorem witness_StepKeepsStatusInvariant :
    (ready ⟨false, 0x43, 7, 0⟩).Inv ∧
      registers (step (ready ⟨false, 0x43, 7, 0⟩)) = some (7, 0x0010, 0xFFFF) := by decide

theorem witness_ReservedStatusBitsReadZero :
    registers (runInputs State.reset [⟨false, 0x60, 0, 0⟩, ⟨false, 0x43, 7, 0⟩])
      = some (7, 0x0018, 0xFFFF) := by decide

theorem witness_CrcByteFoldsOneByte : (0xFF#16).toNat ≤ 0xFF ∧ 0xFF < (0x100#16).toNat := by decide

theorem witness_CrcReadAndCheckDeliver :
    ({ State.reset with crc := 0 } : State).crc = 0 ∧ State.reset.crc ≠ 0 := by decide

theorem witness_OwnCrcLeavesZeroResidue : 1 ≤ ([0x41#8]).length := by decide

theorem witness_CrcCheckDecidesFrameValidity :
    3 ≤ ([0x01#8, 0x7E, 0x80]).length ∧ crcUpdate (crcUpdate 0xCDC5 0xC5) 0xCD = 0 := by
  decide +kernel

theorem witness_AddressCommandsDeliverWireAddresses :
    IsUid 100 ∧ IsUid 115 ∧ ¬ IsUid 99 ∧ ¬ IsUid 116 ∧ 1 ≤ (1#16).toNat ∧ (3#16).toNat ≤ 3 ∧
      (0#16).toNat < 1 ∧ 3 < (4#16).toNat := by unfold IsUid; decide

theorem witness_AddressesIncreaseWithoutOverlap :
    Delivers (.addrStatus 0 100) State.reset 2000 false ∧
    Delivers (.addrStatus 0 115) State.reset 2090 false ∧
    Delivers (.addrCap 0 100) State.reset 1000 false ∧
    Delivers (.addrCap 0 115) State.reset 1045 false ∧
    Delivers (.addrCtrl 1 100) State.reset 2000 false ∧
    Delivers (.addrCtrl 3 100) State.reset 2002 false ∧
    Delivers (.addrCtrl 3 115) State.reset 2047 false ∧ (100#16).toNat < (115#16).toNat :=
  ⟨⟨_, rfl, rfl, rfl, rfl, rfl, rfl, rfl, rfl⟩, ⟨_, rfl, rfl, rfl, rfl, rfl, rfl, rfl, rfl⟩,
    ⟨_, rfl, rfl, rfl, rfl, rfl, rfl, rfl, rfl⟩, ⟨_, rfl, rfl, rfl, rfl, rfl, rfl, rfl, rfl⟩,
    ⟨_, rfl, rfl, rfl, rfl, rfl, rfl, rfl, rfl⟩, ⟨_, rfl, rfl, rfl, rfl, rfl, rfl, rfl, rfl⟩,
    ⟨_, rfl, rfl, rfl, rfl, rfl, rfl, rfl, rfl⟩, by decide⟩

theorem witness_AddressCommandsMatchAddressMap :
    (115#16) = uidOf 15 ∧ (3#16).toNat = (2 : Fin 3).val + 1 := by decide

theorem witness_AccessesStayOnNamedAddresses :
    HostOp.filterSignReset.plan vectorParams 115 StatusBlock.zero = .ok
      [.send (.readInput 2090 6), .send (.writeSingle 2046 0), .wait 500, .send (.writeSingle 2046 0xF0),
        .wait 500, .send (.writeSingle 2046 0)] ∧
      (HostRead.unitCapability 115).transaction = .ok (.readInput 1045 3) ∧
      ∃ addr ∈ (Transaction.readInput 2090 7).addresses, namedAddress .input addr = false :=
  ⟨rfl, rfl, 2096, by decide, by decide⟩

theorem witness_TempEncTChecksDomain :
    (0x04FF#16).toInt.natAbs ≤ 1279 ∧ (0xFB01#16).toInt.natAbs ≤ 1279 ∧
      1279 < (0x0500#16).toInt.natAbs ∧ 1279 < (0xFB00#16).toInt.natAbs := by decide

theorem witness_TempEncHRoundsToTenths :
    (12790#16).toInt.natAbs ≤ 12790 ∧ 12790 < (12791#16).toInt.natAbs := by decide

theorem witness_RoundingIsNearestWithTieRule :
    (14 : Int) % 10 ≠ 5 ∧ (16 : Int) % 10 ≠ 5 ∧ (15 : Int) % 10 = 5 ∧ (-25 : Int) % 10 = 5 := by decide

theorem witness_TempValueIsSignedTenths :
    (0x7FFF#16).toNat ≤ 0x7FFF ∧ 0x7FFF < (0x8000#16).toNat := by decide

theorem witness_SetpointRoundTrip :
    (0xFB01#16).toInt.natAbs ≤ 1279 ∧ (12790#16).toInt.natAbs ≤ 12790 ∧ (12790#16).toInt % 10 = 0 := by
  decide

theorem witness_DecLinkDeliversUnitBit : IsUid 100 ∧ IsUid 115 ∧ ¬ IsUid 99 ∧ ¬ IsUid 116 := by
  unfold IsUid; decide

theorem witness_ExtractDeliversField :
    ((0xF0#16).toNat < 0x100 ∧ 0xF0 % 16 + (0xF0 / 16 % 16 + 1) ≤ 16) ∧
      ((0x0F#16).toNat < 0x100 ∧ 0x0F % 16 + (0x0F / 16 % 16 + 1) ≤ 16) ∧
      0x100 ≤ (0x100#16).toNat ∧ 16 < 0x1F % 16 + (0x1F / 16 % 16 + 1) := by decide

theorem witness_LinkMapDecodesSixteenUnits : 0 < 16 ∧ 15 < 16 := by decide

theorem witness_PowerEncodersChangeBitZero : (1#16).toNat ≤ 1 ∧ 1 < (2#16).toNat := by decide

theorem witness_FanEncodersReplaceTheirField : (7#16).toNat ≤ 7 ∧ 7 < (8#16).toNat := by decide

theorem witness_WordOneCodeEncodersReplaceTheirField :
    (15#16).toNat ≤ 15 ∧ 15 < (16#16).toNat := by decide

theorem witness_CodeCheckIsFieldWidth :
    codeWidth (Instr.w0SetPower 0 1).bKind = some 1 ∧ codeWidth (Instr.w0Compound 0 7).bKind = some 3 ∧
      codeWidth (Instr.w1SetMode 0 16).bKind = some 4 ∧ (7#16).toNat < 2 ^ 3 ∧
      2 ^ 4 ≤ (16#16).toNat := by decide

theorem witness_DecodersReadBackEncoders :
    (1#16).toNat ≤ 1 ∧ (7#16).toNat ≤ 7 ∧ (15#16).toNat ≤ 15 := by decide

theorem witness_ErrorsExactlyOnBadOperands :
    (Instr.addrCtrl 3 115).wellFormed = true ∧
      ((Instr.addrCtrl 0 99).wellFormed = false ∧ (Instr.addrCtrl 0 99).bKind = .uid ∧ ¬ IsUid 99) ∧
      ((Instr.addrCtrl 4 100).wellFormed = false ∧ IsUid 100) ∧
      (Instr.crcByte 0 0x100).wellFormed = false ∧
      decode 0x60 0 0 = .error (.illegalOp 0x60) := by
  refine ⟨by decide, ⟨by decide, rfl, ?_⟩, ⟨by decide, ?_⟩, by decide, rfl⟩ <;> unfold IsUid <;> decide

theorem witness_ResKeptByCrcAndClearAndErrors :
    (Instr.crcInit 0 0).opcode ∈ ([0x01, 0x02, 0x7F] : List Byte) ∧
      registers (exec (.addrCap 0 99) State.reset) = some (0, 0x000A, 0xFFFF) := by decide

theorem witness_EveryCommandWritesLabelFlag : decode 0x60 0 0 = .error (.illegalOp 0x60) := rfl

theorem witness_StickyFlagRecordsAnyError :
    (∀ p ∈ [HostInput.mk false 0x60 0 0, ⟨false, 0x43, 7, 0⟩], p.rst = false ∧ p.op ≠ 0x7F) ∧
      ({ ready ⟨false, 0x7F, 0, 0⟩ with status := 0x000B } : State).status.getLsbD 3 = true ∧
      ({ ready ⟨true, 0x43, 7, 0⟩ with status := 0x000B } : State).status.getLsbD 3 = true ∧
      registers (step { ready ⟨true, 0x43, 7, 0⟩ with status := 0x000B }) = some (0, 0, 0xFFFF) := by
  decide

theorem witness_CommandsButCrcByteAreIdempotent :
    (Instr.crcRead 0 0).opcode ∉ ([0x01, 0x02, 0x7F] : List Byte) := by decide

theorem witness_ResultsDependOnOperandsAlone :
    (Instr.addrCap 0 100).opcode ∉ ([0x01, 0x02, 0x03, 0x04, 0x7F] : List Byte) ∧
      registers (exec (.addrCap 0 100) State.reset) = some (1000, 0, 0xFFFF) := by decide

/-- A layout for the witnesses: the fields at the low bit and with the width less one given. -/
def layoutParams (lo width : Fin 16) : Params :=
  { vectorParams with statusLayout := fun _ => (5, lo, width), capLayout := fun _ => (2, lo, width) }

/-- For each clause the ends of its range: the last bit of a word, the last place of a nibble, a role of the
layout's width, a whole word, a step count, and a limit at low bits 0, 7, 8 and 15. -/
theorem witness_FieldCommandsDeliverTheirField :
    ((layoutParams 15 3).statusLayout .warning).2.1.val
        + statusFieldWidth (layoutParams 15 3) .warning = 16 ∧
      ((layoutParams 12 0).statusLayout .errorCode1).2.1.val
        + statusFieldWidth (layoutParams 12 0) .errorCode1 = 16 ∧
      ((layoutParams 11 4).statusLayout .masterSlave).2.1.val
        + statusFieldWidth (layoutParams 11 4) .masterSlave = 16 ∧
      ((layoutParams 0 0).statusLayout .roomTemperature).2.1.val
        + statusFieldWidth (layoutParams 0 0) .roomTemperature = 16 ∧
      capFieldWidth (layoutParams 15 3) .dryPresent = some 1 ∧
      capFieldWidth (layoutParams 8 7) .fanDirSteps = some 8 ∧
      ∀ lo : Fin 16, lo ∈ [(0 : Fin 16), 7, 8, 15] →
        capFieldWidth (layoutParams lo 7) .heatingLower = none ∧
        capFieldCommand (layoutParams lo 7) .heatingLower 0x1E80
          = if lo.val < 8 then .decSbyteLo 0x1E80 0 else .decSbyteHi 0x1E80 0 := by decide

theorem witness_SetFieldPrimesWaitsCommits :
    vectorParams.primeRequired = true ∧ IsUid 115 ∧ ¬ IsUid 116 ∧ 1 ≤ (1#16).toNat ∧
      (3#16).toNat ≤ 3 ∧ setFanVolWord 0 5 = .ok 0x5060 ∧ setFanVolWord 0x0001 5 = .ok 0x5061 ∧
      setFanVolWord 0 8 = .error .invalidArgument ∧
      Delivers (.w1FilterSet 0x0002 0) State.reset 0x00F2 false ∧
      Delivers (.w1FilterClr 0x0002 0) State.reset 0x0002 false := by
  refine ⟨rfl, ?_, ?_, by decide, by decide, rfl, rfl, rfl, ⟨_, rfl, rfl, rfl, rfl, rfl, rfl, rfl, rfl⟩,
    ⟨_, rfl, rfl, rfl, rfl, rfl, rfl, rfl, rfl⟩⟩ <;> unfold IsUid <;> decide

theorem witness_OperationsUseTheirCommands :
    (singleField (.power none)).isSome = true ∧ (singleField (.setpointTenths 240)).isSome = true ∧
      StatusBlock.zero.words[2]? = some 0 ∧ IsUid 100 ∧ ¬ IsUid 99 ∧
      Delivered (execWith vectorParams (.tempEncT 0 240) State.reset) State.reset 240 false ∧
      Raised (execWith vectorParams (.tempEncT 0 1280) State.reset) State.reset 3 := by
  refine ⟨rfl, rfl, rfl, ?_, ?_, ⟨_, rfl, rfl, rfl, rfl, rfl, rfl, rfl, rfl⟩,
    ⟨_, rfl, rfl, rfl, rfl, rfl, rfl, rfl, rfl⟩⟩ <;> unfold IsUid <;> decide

theorem witness_CompoundWriteIsOneTransaction :
    vectorParams.primeRequired = true ∧ IsUid 102 ∧ ¬ IsUid 99 ∧
      Delivers (.w0Compound 0x0000 5) State.reset 0x5061 false ∧
      Delivers (.w1SetMode 0x0001 2) State.reset 0x0002 false ∧
      Delivered (execWith vectorParams (.tempEncH 0 2400) State.reset) State.reset 0x00F0 false ∧
      7 < (8#16).toNat ∧ 15 < (16#16).toNat ∧ 12790 < (12791#16).toInt.natAbs := by
  refine ⟨rfl, ?_, ?_, ⟨_, rfl, rfl, rfl, rfl, rfl, rfl, rfl, rfl⟩,
    ⟨_, rfl, rfl, rfl, rfl, rfl, rfl, rfl, rfl⟩, ⟨_, rfl, rfl, rfl, rfl, rfl, rfl, rfl, rfl⟩,
    by decide, by decide, by decide⟩ <;> unfold IsUid <;> decide

/-- P3's answer to the read of unit 101's status block. -/
def p3Answer : Answer :=
  some [0x01, 0x04, 0x0C, 0x53, 0x61, 0x02, 0x02, 0x00, 0xF0, 0x00, 0x00, 0x00, 0xE6, 0x00, 0x00,
    0x02, 0xDC]

theorem witness_OperationsValidateBeforeSending :
    HostOp.plan vectorParams 99 StatusBlock.zero .filterSignReset = .error .invalidUnit ∧
      (∃ plan, HostOp.plan vectorParams 101 StatusBlock.zero (.mode 2) = .ok plan) ∧
      transact vectorParams (.readInput 2006 6) [] =
        ([.send (.readInput 2006 6), .wait 1500, .send (.readInput 2006 6), .wait 1500,
          .send (.readInput 2006 6)], .error (.communicationError .timeout)) ∧
      transact vectorParams (.readInput 2006 6) [none, p3Answer] =
        ([.send (.readInput 2006 6), .wait 1500, .send (.readInput 2006 6)],
          .ok [0x5361, 0x0202, 0x00F0, 0x0000, 0x00E6, 0x0000]) :=
  ⟨rfl, ⟨_, rfl⟩, by decide +kernel, by decide +kernel⟩

theorem witness_ReadsUseTheAddressMap : IsUid 100 ∧ IsUid 115 ∧ ¬ IsUid 99 ∧ ¬ IsUid 116 := by
  unfold IsUid; decide

theorem witness_OnlyTheResponseIsGood :
    ([] : List Byte).length < 3 ∧ 3 ≤ ([0x01#8, 0x04, 0x02, 0x00]).length ∧
      registers (runCommands State.reset (crcCheckFrame [0x01, 0x04, 0x02, 0x00]))
        = some (0, 0, 0x7941) ∧
      registers (runCommands State.reset (crcCheckFrame [0x01, 0x86, 0x02, 0xC3, 0xA1]))
        = some (1, 0, 0) ∧
      ∀ ws, [0x01#8, 0x86, 0x02, 0xC3, 0xA1] ≠ (Transaction.writeSingle 0x07D8 0x00F0).response 0x01 ws := by
  refine ⟨by decide, by decide, by decide +kernel, by decide +kernel, fun _ h => ?_⟩
  exact absurd (congrArg List.length h)
    (by simp [Transaction.response, withCrc, wordBytes])

theorem witness_RetryStopsAfterThreeAttempts :
    receive vectorParams.slaveAddr (.readInput 2006 6) (([none, none, p3Answer] : List Answer).getD 2 none)
      = .ok [0x5361, 0x0202, 0x00F0, 0x0000, 0x00E6, 0x0000] ∧
      (∀ j, j < 2 → ¬ Good vectorParams (.readInput 2006 6)
        (([none, none, p3Answer] : List Answer).getD j none)) ∧
      ∀ k, k < 3 → ¬ Good vectorParams (.readInput 2006 6)
        (([none, none, none, p3Answer] : List Answer).getD k none) := by
  refine ⟨by decide +kernel, fun j hj => ?_, fun k hk => ?_⟩ <;> rintro ⟨ws, h⟩
  · obtain rfl | rfl : j = 0 ∨ j = 1 := by omega
    all_goals cases h
  · obtain rfl | rfl | rfl : k = 0 ∨ k = 1 ∨ k = 2 := by omega
    all_goals cases h

theorem witness_SequenceStopsAtFirstFailure :
    (∀ t ∈ sends [.send (.readInput 2006 6), .send (.writeSingle 2003 0), .wait 500,
      .send (.writeSingle 2003 0)], t.admitted = true) ∧
      AllAnswered vectorParams [.readInput 2006 6] [[p3Answer], []] ∧
      ¬ Answered vectorParams (.writeSingle 2003 0) [] := by
  refine ⟨by decide +kernel, ⟨⟨0, by decide, [0x5361, 0x0202, 0x00F0, 0x0000, 0x00E6, 0x0000], ?_⟩,
    trivial⟩, ?_⟩
  · decide +kernel
  · rintro ⟨k, -, ws, h⟩
    cases h

theorem witness_BulkReadSplitsIntoSlots :
    (bulkUnits [1, 2, 3, 4, 5, 6, 7])[0]? = some (100, ⟨1, 2, 3, 4, 5, 6⟩) := rfl

theorem witness_BlocksOfWrongLengthAreRejected :
    ([1, 2, 3, 4, 5, 6] : List Word).length = 6 ∧ ([1, 2, 3] : List Word).length = 3 := ⟨rfl, rfl⟩

end Sys2Proof.Tests
end

