-- ==== Sys2Proof/Proofs/StatusRules.lean ====
section
/-! PROOF. The rules about STATUS over commands, presentations and runs (R23 to R27, R34). What the end
of each command can be is said once (`ExecEnd`); from it follow STATUS after a command, after a
presentation and after a run, and from those the obligations. -/

namespace Sys2Proof.Machine

open Sys2Proof.Claims

/-! ### Reading an operand against its domain (R72, R241) -/

/-- The error an operand of this kind raises outside its domain (R72). -/
def operandError : OperandKind → BlockError
  | .uid => .invalidUnit
  | _ => .invalidArgument

/-- The answer to reading `w` as an operand of kind `k`: a value on what the kind admits, and on
everything else the kind's error. -/
inductive Reads {α : Type} (k : OperandKind) (w : Word) : Except BlockError α → Prop
  | ok (v : α) (h : k.admits w = true) : Reads k w (.ok v)
  | error (h : k.admits w = false) : Reads k w (.error (operandError k))

theorem Reads.map {α β : Type} {k : OperandKind} {w : Word} {r : Except BlockError α}
    (h : Reads k w r) (f : α → β) : Reads k w (r.map f) := by
  cases h with
  | ok v h => exact .ok (f v) h
  | error h => exact .error h

/-- The shape of every reader of `Operands`: its two equations, and the domain they split on. -/
theorem Reads.of_equations {α : Type} {k : OperandKind} {w : Word} {r : Except BlockError α} {v : α}
    {p : Prop} [Decidable p] (hk : k.admits w = decide p) (hok : p → r = .ok v)
    (herr : ¬ p → r = .error (operandError k)) : Reads k w r := by
  by_cases hp : p
  · rw [hok hp]; exact .ok v (hk.trans (decide_eq_true hp))
  · rw [herr hp]; exact .error (hk.trans (decide_eq_false hp))

theorem reads_code {k : OperandKind} {width : Nat} (h : codeWidth k = some width) (b : Word) :
    Reads k b (readCode width b) := by
  cases k <;> cases h <;>
    exact .of_equations (p := b.toNat < 2 ^ _) rfl readCode_ok readCode_error

theorem reads_byte (b : Word) : Reads .byte b (readByte b) :=
  .of_equations rfl readByte_ok readByte_error

theorem reads_uid (b : Word) : Reads .uid b (readUid b) :=
  .of_equations rfl readUid_ok readUid_error

theorem reads_wordNumber (a : Word) : Reads .wordNumber a (readWordNumber a) :=
  .of_equations rfl readWordNumber_ok readWordNumber_error

theorem reads_tenths (b : Word) : Reads .tenths b (readTenths b) :=
  .of_equations rfl readTenths_ok readTenths_error

theorem reads_hundredths (b : Word) : Reads .hundredths b (readHundredths b) :=
  .of_equations rfl readHundredths_ok readHundredths_error

theorem reads_fieldDescriptor (b : Word) : Reads .fieldDescriptor b (readDescriptor b) :=
  .of_equations rfl readDescriptor_ok readDescriptor_error

/-! ### The labels of R163, in the numbers of `labelOf` -/

theorem fanDirCode_toNat (a : Word) : (fanDirCode a).toNat = a.toNat / 256 % 8 :=
  field_toNat _ _ _ (by omega)

theorem fanVolCode_toNat (a : Word) : (fanVolCode a).toNat = a.toNat / 4096 % 8 :=
  field_toNat _ _ _ (by omega)

theorem modeCode_toNat (a : Word) : (modeCode a).toNat = a.toNat % 16 := by
  rw [modeCode, field_toNat _ _ _ (by omega)]; omega

theorem opStatCode_toNat (a : Word) : (opStatCode a).toNat = a.toNat / 256 % 16 :=
  field_toNat _ _ _ (by omega)

/-- An open label is a label exactly when P_FANDIR_LABEL makes it STOP. -/
theorem openFanDir_isSome (l : OpenFanDirLabel) : (openFanDir l).isSome = (l == .stop) := by
  cases l <;> rfl

theorem labelOf_decFandir (a b : Word) :
    (fanDirLabel Config.fanDirLabel5 Config.fanDirLabel6 (fanDirCode a).toNat).isSome =
      labelOf (.decFandir a b) := by
  rw [fanDirCode_toNat, labelOf]
  generalize hc : a.toNat / 256 % 8 = code
  have hlt : code < 8 := by omega
  interval_cases code <;> simp [fanDirLabel, openFanDir_isSome]

theorem labelOf_decFanvol (a b : Word) :
    (fanVolLabel (fanVolCode a).toNat).isSome = labelOf (.decFanvol a b) := by
  rw [fanVolCode_toNat, labelOf]
  generalize hc : a.toNat / 4096 % 8 = code
  have hlt : code < 8 := by omega
  interval_cases code <;> rfl

theorem labelOf_decMode (a b : Word) :
    (modeLabel (modeCode a).toNat).isSome = labelOf (.decMode a b) := by
  rw [modeCode_toNat, labelOf]
  generalize hc : a.toNat % 16 = code
  have hlt : code < 16 := by omega
  interval_cases code <;> rfl

theorem labelOf_decOpstat (a b : Word) :
    (opStatLabel Config.opStatLabel (opStatCode a).toNat).isSome = labelOf (.decOpstat a b) := by
  rw [opStatCode_toNat]; rfl

/-! ### What the end of a command can be -/

/-- All that a command can do to the state: CLR_ERR clears the error state (R220); every other command
either succeeds, with both operands in their domains, and writes its LBL (R26), or raises the error of
its first bad operand, `b` before `a` (R241, R243). CRC is written by CRC_INIT and CRC_BYTE alone, which
leave RES as it was (R21, R22). -/
inductive ExecEnd (i : Instr) (s : State) : Prop
  | cleared (hop : i.opcode = 0x7F) (hwf : i.wellFormed = true) (hlbl : labelOf i = false)
      (hx : exec i s = .next { s with status := statusCleared s.status })
  | succeeded (w : Writes) (hop : i.opcode ≠ 0x7F) (hwf : i.wellFormed = true)
      (hlbl : w.lbl = labelOf i)
      (hreg : if i.opcode = 0x01 ∨ i.opcode = 0x02 then w.res = none else w.crc = none)
      (hx : exec i s = .next (succeed w s))
  | rejected (e : BlockError) (hop : i.opcode ≠ 0x7F) (hwf : i.wellFormed = false)
      (hlbl : labelOf i = false)
      (he : e = operandError (if i.bKind.admits i.opB then i.aKind else i.bKind))
      (hx : exec i s = .next (raiseError e s))

/-- A command that delivers one word to RES, made from reading `b` as its kind says, and has no label. -/
theorem ExecEnd.of_completeRes {i : Instr} {s : State} {r : Except BlockError Word}
    (hx : exec i s = completeRes r s) (hr : Reads i.bKind i.opB r)
    (ha : i.aKind.admits i.opA = true) (hlbl : labelOf i = false)
    (hop : ([0x01, 0x02, 0x7F] : List Byte).contains i.opcode = false) : ExecEnd i s := by
  have ⟨h1, h2, h7F⟩ : i.opcode ≠ 0x01 ∧ i.opcode ≠ 0x02 ∧ i.opcode ≠ 0x7F := by simpa using hop
  cases hr with
  | ok v hb =>
    exact .succeeded { res := some v } h7F (by simp [Instr.wellFormed, ha, hb]) hlbl.symm
      ((if_neg (not_or.mpr ⟨h1, h2⟩)).mpr rfl) hx
  | error hb => exact .rejected _ h7F (by simp [Instr.wellFormed, hb]) hlbl (by simp [hb]) hx

/-- A labelled decoder: it never fails, and its LBL is that of its code. -/
theorem ExecEnd.of_completeLabelled {i : Instr} {s : State} {code : Word} {lbl : Bool}
    (hx : exec i s = completeLabelled code lbl s) (hlbl : lbl = labelOf i)
    (hwf : i.wellFormed = true)
    (hop : ([0x01, 0x02, 0x7F] : List Byte).contains i.opcode = false) : ExecEnd i s := by
  have ⟨h1, h2, h7F⟩ : i.opcode ≠ 0x01 ∧ i.opcode ≠ 0x02 ∧ i.opcode ≠ 0x7F := by simpa using hop
  exact .succeeded { res := some code, lbl := lbl } h7F hwf hlbl
    ((if_neg (not_or.mpr ⟨h1, h2⟩)).mpr rfl) hx

theorem execEnd_crcByte (a b : Word) (s : State) : ExecEnd (.crcByte a b) s := by
  have hop : (0x02 : Byte) ≠ 0x7F := by decide
  have hx : exec (.crcByte a b) s =
      complete ((readByte b).map fun x => { crc := some (crcUpdate s.crc x) }) s := rfl
  have hb := reads_byte b
  generalize readByte b = r at hx hb
  cases hb with
  | ok x hb => exact .succeeded { crc := some (crcUpdate s.crc x) } hop hb rfl rfl hx
  | error hb =>
    exact .rejected _ hop hb rfl (if_neg (Bool.eq_false_iff.mp hb) ▸ rfl) hx

/-- ADDR_CTRL reads `b` before `a` (R142, R243). -/
theorem execEnd_addrCtrl (a b : Word) (s : State) : ExecEnd (.addrCtrl a b) s := by
  have hop : (0x52 : Byte) ≠ 0x7F := by decide
  have hx : exec (.addrCtrl a b) s = completeRes (addrCtrlWord a b) s := rfl
  have hu := reads_uid b
  have hk := reads_wordNumber a
  unfold addrCtrlWord at hx
  generalize readUid b = u at hx hu
  generalize readWordNumber a = k at hx hk
  cases hu with
  | error hb =>
    refine .rejected _ hop ?_ rfl ?_ hx <;> simp [Instr.wellFormed, Instr.bKind, Instr.opB, hb]
  | ok uid hb =>
    cases hk with
    | error ha =>
      refine .rejected _ hop ?_ rfl ?_ hx <;>
        simp [Instr.wellFormed, Instr.aKind, Instr.opA, Instr.bKind, Instr.opB, ha, hb]
    | ok k ha =>
      refine .succeeded { res := some _ } hop ?_ rfl rfl hx
      simp [Instr.wellFormed, Instr.aKind, Instr.opA, Instr.bKind, Instr.opB, ha, hb]

/-- Every command ends in one of the ways of `ExecEnd`, one line per command of the opcode map. -/
theorem exec_end (i : Instr) (s : State) : ExecEnd i s := by
  cases i with
  | crcInit a b =>
    exact .succeeded { crc := some crcInitial } (by decide : (0x01 : Byte) ≠ 0x7F) rfl rfl rfl rfl
  | crcByte a b => exact execEnd_crcByte a b s
  | crcRead a b => exact .of_completeRes rfl (.ok _ rfl) rfl rfl rfl
  | crcCheck a b => exact .of_completeRes rfl (.ok _ rfl) rfl rfl rfl
  | w0SetPower a b => exact .of_completeRes rfl ((reads_code rfl b).map _) rfl rfl rfl
  | w0TogglePower a b => exact .of_completeRes rfl (.ok _ rfl) rfl rfl rfl
  | w0SetFandir a b => exact .of_completeRes rfl ((reads_code rfl b).map _) rfl rfl rfl
  | w0SetFanvol a b => exact .of_completeRes rfl ((reads_code rfl b).map _) rfl rfl rfl
  | w0Compound a b => exact .of_completeRes rfl ((reads_code rfl b).map _) rfl rfl rfl
  | w1SetMode a b => exact .of_completeRes rfl ((reads_code rfl b).map _) rfl rfl rfl
  | w1FilterSet a b => exact .of_completeRes rfl (.ok _ rfl) rfl rfl rfl
  | w1FilterClr a b => exact .of_completeRes rfl (.ok _ rfl) rfl rfl rfl
  | w1SetOpstat a b => exact .of_completeRes rfl ((reads_code rfl b).map _) rfl rfl rfl
  | tempEncT a b => exact .of_completeRes rfl ((reads_tenths b).map _) rfl rfl rfl
  | tempEncH a b => exact .of_completeRes rfl ((reads_hundredths b).map _) rfl rfl rfl
  | tempDec a b => exact .of_completeRes rfl (.ok _ rfl) rfl rfl rfl
  | decPower a b => exact .of_completeRes rfl (.ok _ rfl) rfl rfl rfl
  | decFandir a b => exact .of_completeLabelled rfl (labelOf_decFandir a b) rfl rfl
  | decFanvol a b => exact .of_completeLabelled rfl (labelOf_decFanvol a b) rfl rfl
  | decMode a b => exact .of_completeLabelled rfl (labelOf_decMode a b) rfl rfl
  | decOpstat a b => exact .of_completeLabelled rfl (labelOf_decOpstat a b) rfl rfl
  | decReady a b => exact .of_completeRes rfl (.ok _ rfl) rfl rfl rfl
  | decLink a b => exact .of_completeRes rfl ((reads_uid b).map _) rfl rfl rfl
  | decSbyteLo a b => exact .of_completeRes rfl (.ok _ rfl) rfl rfl rfl
  | decSbyteHi a b => exact .of_completeRes rfl (.ok _ rfl) rfl rfl rfl
  | extract a b => exact .of_completeRes rfl ((reads_fieldDescriptor b).map _) rfl rfl rfl
  | addrStatus a b => exact .of_completeRes rfl ((reads_uid b).map _) rfl rfl rfl
  | addrCap a b => exact .of_completeRes rfl ((reads_uid b).map _) rfl rfl rfl
  | addrCtrl a b => exact execEnd_addrCtrl a b s
  | clrErr a b => exact .cleared rfl rfl rfl rfl

/-! ### STATUS after a command, a presentation and a run -/

/-- Every command completes and leaves the host's inputs and STATUS[15:5] alone; it writes LBL, and STK
ends at 1 when it was 1 or the command raised an error, unless the command is CLR_ERR (R25 to R27). -/
theorem exec_status (i : Instr) (s : State) : ∃ t, exec i s = .next t ∧ t.inputs = s.inputs ∧
    statusReserved t.status = statusReserved s.status ∧ statusLbl t.status = labelOf i ∧
    statusStk t.status =
      if i.opcode = 0x7F then false else statusStk s.status || !i.wellFormed := by
  cases exec_end i s with
  | cleared hop hwf hlbl hx =>
    obtain ⟨-, hstk, hl, hres⟩ := statusCleared_fields s.status
    exact ⟨_, hx, rfl, hres, hl.trans hlbl.symm, hstk.trans (if_pos hop).symm⟩
  | succeeded w hop hwf hlbl _ hx =>
    obtain ⟨-, hstk, hl, hres⟩ := statusOk_fields w.lbl s.status
    refine ⟨_, hx, rfl, hres, hl.trans hlbl, ?_⟩
    rw [if_neg hop, hwf]
    simp [hstk]
  | rejected e hop hwf hlbl _ hx =>
    obtain ⟨-, hstk, hl, hres⟩ := statusError_fields e s.status
    refine ⟨_, hx, rfl, hres, hl.trans hlbl.symm, ?_⟩
    rw [if_neg hop, hwf]
    simp [hstk]

/-- A decoded command's opcode is the one presented (R74). -/
theorem opcode_of_decode {op : Byte} {a b : Word} {i : Instr} (h : decode op a b = .ok i) :
    i.opcode = op := by
  apply BitVec.eq_of_toNat_eq
  unfold decode at h
  split at h <;> cases h <;> exact Eq.symm ‹op.toNat = _›

/-- CLR_ERR's opcode is assigned (R220). -/
theorem op_ne_clrErr_of_decode_error {op : Byte} {a b : Word} {e : DecodeError}
    (h : decode op a b = .error e) : op ≠ 0x7F := by
  rintro rfl
  cases h

/-- An unassigned opcode completes as an error: STK is 1, LBL is 0 (R75, R242). -/
theorem present_unassigned {p : HostInput} {s : State} {e : DecodeError} (hr : p.rst = false)
    (hd : decode p.op p.a p.b = .error e) : present p s = .next (raiseError .illegalOp s) := by
  rw [present, hr, hd]; rfl

/-- The reset value of STATUS reads as reserved bits 0 and STK 0 (R34). -/
theorem statusReserved_zero : statusReserved 0 = 0 := by decide

theorem statusStk_zero : statusStk 0 = false := by decide

/-- Every presentation completes and takes no further input. STATUS[15:5] stays or, by reset, becomes 0
(R27); STK ends at 0 by reset and by CLR_ERR, and else at 1 when it was 1 or the presented command raised
an error (R25, R34). -/
theorem present_status (p : HostInput) (s : State) :
    ∃ t, present p s = .next t ∧ t.inputs = s.inputs ∧
      (statusReserved t.status = statusReserved s.status ∨ statusReserved t.status = 0) ∧
      statusStk t.status =
        if p.rst = true ∨ p.op = 0x7F then false else statusStk s.status || p.fails := by
  obtain ⟨hr, hx⟩ | ⟨hr, i, hd, hx⟩ | ⟨hr, e, hd, hx⟩ := present_cases p s
  · refine ⟨_, hx, rfl, .inr statusReserved_zero, ?_⟩
    rw [if_pos (Or.inl hr), resetRegisters_status, statusStk_zero]
  · obtain ⟨t, ht, hin, hres, -, hstk⟩ := exec_status i s
    refine ⟨t, hx.trans ht, hin, .inl hres, ?_⟩
    simp [hstk, opcode_of_decode hd, hr, HostInput.fails, hd]
  · obtain ⟨-, hstk, -, hres⟩ := statusError_fields .illegalOp s.status
    refine ⟨_, hx, rfl, .inl hres, ?_⟩
    rw [if_neg (not_or.mpr ⟨ne_true_of_eq_false hr, op_ne_clrErr_of_decode_error hd⟩)]
    simp [hstk, HostInput.fails, hd]

/-- A step acts as its first presentation does (R28, R30). -/
theorem step_of_inputs {s : State} {p : HostInput} {rest : List HostInput} (h : s.inputs = p :: rest) :
    step s = present p { s with inputs := rest } := by
  rw [step, h]

/-- A run from reserved bits 0 ends with reserved bits 0 (R27). -/
theorem runInputs_reserved (ps : List HostInput) : ∀ {s t : State}, statusReserved s.status = 0 →
    runInputs s ps = .next t → statusReserved t.status = 0 := by
  induction ps with
  | nil => rintro s t hs ⟨⟩; exact hs
  | cons p ps ih =>
    intro s t hs ht
    obtain ⟨u, hx, hin, hres, -⟩ := present_status p { s with inputs := ps }
    rw [runInputs_cons s u p ps hx hin] at ht
    exact ih (hres.elim (·.trans hs) id) ht

/-- A run with no reset and no CLR_ERR gathers every error in STK (R25). -/
theorem runInputs_stk (ps : List HostInput) : ∀ s : State,
    (∀ p ∈ ps, p.rst = false ∧ p.op ≠ 0x7F) → ∃ t, runInputs s ps = .next t ∧
      statusStk t.status = (statusStk s.status || ps.any HostInput.fails) := by
  induction ps with
  | nil => exact fun s _ => ⟨_, runInputs_nil s, by simp⟩
  | cons p ps ih =>
    intro s h
    obtain ⟨⟨hr, hop⟩, hps⟩ := List.forall_mem_cons.mp h
    obtain ⟨u, hx, hin, -, hstk⟩ := present_status p { s with inputs := ps }
    rw [if_neg (not_or.mpr ⟨ne_true_of_eq_false hr, hop⟩)] at hstk
    obtain ⟨t, ht, hstk'⟩ := ih u hps
    refine ⟨t, (runInputs_cons s u p ps hx hin).trans ht, ?_⟩
    rw [hstk', hstk, List.any_cons, Bool.or_assoc]

/-! ### The obligations -/

/-- Settles O5: R34's table, from the fields of the reset state. -/
theorem resetValues : Obligations.ResetValues := by
  unfold Obligations.ResetValues
  refine ⟨reset_crc, reset_res, ?_⟩
  simp [reset_status]

/-- Settles O9: a presentation keeps the reserved bits or resets them, and the run starts at 0. -/
theorem reservedStatusBitsReadZero : Obligations.ReservedStatusBitsReadZero := by
  unfold Obligations.ReservedStatusBitsReadZero
  simp only [← statusReserved_toNat]
  constructor
  · intro s t ht
    obtain ⟨-, hnone⟩ | ⟨p, rest, -, hstep⟩ := step_cases s
    · cases hnone.symm.trans ht
    · obtain ⟨u, hx, -, hres, -⟩ := present_status p { s with inputs := rest }
      cases (hstep.trans hx).symm.trans ht
      exact hres.imp (congrArg BitVec.toNat) (congrArg BitVec.toNat)
  · intro ps t ht
    exact congrArg BitVec.toNat (runInputs_reserved ps (s := State.reset) statusReserved_zero ht)

/-- Settles O45: `exec_status` for the commands, `statusError_fields` for the unassigned opcodes. -/
theorem everyCommandWritesLabelFlag : Obligations.EveryCommandWritesLabelFlag := by
  unfold Obligations.EveryCommandWritesLabelFlag
  constructor
  · intro i s
    obtain ⟨t, hx, -, -, hlbl, -⟩ := exec_status i s
    exact ⟨t, hx, hlbl⟩
  · intro p s e hr hd
    obtain ⟨-, -, hlbl, -⟩ := statusError_fields .illegalOp s.status
    exact ⟨_, present_unassigned hr hd, hlbl⟩

/-- Settles O46: errors gather in STK along a run, and one presentation clears it only by reset or
CLR_ERR. -/
theorem stickyFlagRecordsAnyError : Obligations.StickyFlagRecordsAnyError := by
  unfold Obligations.StickyFlagRecordsAnyError
  refine ⟨fun s ps h => runInputs_stk ps s h, fun s p rest hin => ?_⟩
  obtain ⟨t, hx, -, -, hstk⟩ := present_status p { s with inputs := rest }
  refine ⟨t, (step_of_inputs hin).trans hx, fun hs => ?_⟩
  have hs' : statusStk s.status = true := hs
  change statusStk t.status = false ↔ _
  rw [hstk, hs', Bool.true_or]
  simp [or_iff_not_imp_left]

end Sys2Proof.Machine
end

/-! PROOF. Which opcodes decode, what an unassigned one does to the block, and which operand fields a
command reads (R73, R75, R242). -/

namespace Sys2Proof.Machine

open Sys2Proof.Claims

/-! ### The assigned and the unassigned opcodes (R74, R75) -/

/-- No command of the opcode map has an opcode that R75 lists. -/
theorem unassigned_opcode (i : Instr) : unassigned i.opcode.toNat = false := by
  cases i <;> rfl

/-- An opcode that decodes to no command lies in one of the ranges that R75 lists. Only the decoder's last
arm rejects; there the opcode is none of the 30 of the map, and R75's ranges are all that is left. -/
theorem unassigned_of_decode_error {op : Byte} {a b : Word} {e : DecodeError}
    (h : decode op a b = .error e) : unassigned op.toNat = true := by
  have hlt : op.toNat < 256 := op.isLt
  unfold decode at h
  split at h <;> cases h
  grind [unassigned]

/-- R75: the decoder rejects exactly the listed opcodes, whatever the operands. -/
theorem decode_error_iff (op : Byte) (a b : Word) :
    (∃ e, decode op a b = .error e) ↔ unassigned op.toNat = true := by
  refine ⟨fun ⟨e, h⟩ => unassigned_of_decode_error h, fun hu => ?_⟩
  cases hd : decode op a b with
  | error e => exact ⟨e, rfl⟩
  | ok i => simp [← opcode_of_decode hd, unassigned_opcode] at hu

/-- STATUS after an error, in the words of the statements (R242). -/
theorem statusReads_statusError (e : BlockError) (st : Word) :
    StatusReads (statusError e st) e.errCode.code.toNat true false st := by
  obtain ⟨herr, hstk, hlbl, hres⟩ := statusError_fields e st
  exact ⟨by rw [← statusErr_toNat, herr], hstk, hlbl,
    by rw [← statusReserved_toNat, hres, statusReserved_toNat]⟩

/-! ### The obligations -/

/-- Settles O2: the decoder's gaps are R75's (`decode_error_iff`), and the presentation of such an opcode
writes STATUS alone. -/
theorem unassignedOpcodesAreIllegal : Obligations.UnassignedOpcodesAreIllegal := by
  unfold Obligations.UnassignedOpcodesAreIllegal
  refine ⟨decode_error_iff, rfl, fun s p rest hin hr hu => ?_⟩
  obtain ⟨e, hd⟩ := (decode_error_iff p.op p.a p.b).mpr hu
  exact ⟨_, (step_of_inputs hin).trans (present_unassigned hr hd), rfl, rfl, rfl,
    statusReads_statusError .illegalOp s.status⟩

/-- Settles O47, command by command: the meaning of each takes only the operands that `eraseUnused`
keeps, so both sides run the same operation on the same words. -/
theorem unusedOperandsAreIgnored : Obligations.UnusedOperandsAreIgnored := by
  unfold Obligations.UnusedOperandsAreIgnored
  intro i s
  cases i <;> rfl

end Sys2Proof.Machine

/-! PROOF. How a command that delivers one word ends, in the words of the statements (R22, R242), and the
temperature converter: rounding to tenths, the signed view of a word, and the obligations about them
(R100 to R105). -/

namespace Sys2Proof.Machine

open Sys2Proof.Claims

/-! ### The end of a command, in the words of the statements -/

/-- STATUS after a success, in the words of the statements (R24 to R27). -/
theorem statusReads_statusOk (lbl : Bool) (st : Word) :
    StatusReads (statusOk lbl st) 0 (st.getLsbD 3) lbl st := by
  obtain ⟨herr, hstk, hlbl, hres⟩ := statusOk_fields lbl st
  exact ⟨by rw [← statusErr_toNat, herr]; rfl, hstk, hlbl,
    by rw [← statusReserved_toNat, hres, statusReserved_toNat]⟩

/-- A word that was computed is delivered. -/
theorem delivered_completeRes_ok (v : Word) (s : State) :
    Delivered (completeRes (.ok v) s) s v false :=
  ⟨_, completeRes_ok v s, rfl, rfl, rfl, statusReads_statusOk false s.status⟩

/-- An error is raised with its code. -/
theorem raised_completeRes_error (e : BlockError) (s : State) :
    Raised (completeRes (.error e) s) s e.errCode.code.toNat :=
  ⟨_, completeRes_error e s, rfl, rfl, rfl, statusReads_statusError e s.status⟩

/-! ### Rounding to tenths (R102, R104) -/

/-- All that `roundDiv10` can give: the floor of c/10 where the remainder is at most 5, and the next
integer where it is at least 5. At 5 the tie rule chooses between the two. -/
theorem roundDiv10_cases (tie : RoundTie) (c : Int) :
    (roundDiv10 tie c = c / 10 ∧ c % 10 ≤ 5) ∨ (roundDiv10 tie c = c / 10 + 1 ∧ 5 ≤ c % 10) := by
  unfold roundDiv10
  by_cases hgt : 5 < c % 10
  · exact .inr ⟨if_pos hgt, hgt.le⟩
  by_cases hlt : c % 10 < 5
  · exact .inl ⟨by simp [hgt, hlt], hlt.le⟩
  have htie : c % 10 = 5 := by omega
  cases tie with
  | halfEven => by_cases heven : c / 10 % 2 = 0 <;> simp [htie, heven]
  | halfAway => by_cases hpos : 0 ≤ c <;> simp [htie, hpos]

/-- Rounding does not leave a domain whose ends are whole tenths. -/
theorem roundDiv10_natAbs_le (tie : RoundTie) {c : Int} {n : Nat} (h : c.natAbs ≤ 10 * n) :
    (roundDiv10 tie c).natAbs ≤ n := by
  obtain ⟨hround, hrem⟩ | ⟨hround, hrem⟩ := roundDiv10_cases tie c <;> omega

/-- The word of a value in the setpoint domain has that value (R101). -/
theorem toInt_ofInt_setpoint {t : Int} (h : t.natAbs ≤ 1279) : (BitVec.ofInt 16 t).toInt = t :=
  BitVec.toInt_ofInt_eq_self (by decide) (by omega) (by omega)

/-! ### TEMP_ENC_H (R104) -/

theorem tempEncHWord_ok (tie : RoundTie) {b : Word} (h : b.toInt.natAbs ≤ 12790) :
    tempEncHWord tie b = .ok (BitVec.ofInt 16 (roundDiv10 tie b.toInt)) := by
  rw [tempEncHWord, readHundredths_ok (by omega)]; rfl

theorem tempEncHWord_error (tie : RoundTie) {b : Word} (h : 12790 < b.toInt.natAbs) :
    tempEncHWord tie b = .error .invalidArgument := by
  rw [tempEncHWord, readHundredths_error (by omega)]; rfl

/-- In the domain, TEMP_ENC_H delivers the rounded setpoint, which is again in the domain. -/
theorem execTempEncHWith_delivered (tie : RoundTie) (b : Word) (s : State)
    (h : b.toInt.natAbs ≤ 12790) :
    ∃ v, Delivered (execTempEncHWith tie b s) s v false ∧
      v.toInt = roundDiv10 tie b.toInt ∧ v.toInt.natAbs ≤ 1279 := by
  have hbound : (roundDiv10 tie b.toInt).natAbs ≤ 1279 := roundDiv10_natAbs_le tie h
  have hvalue := toInt_ofInt_setpoint hbound
  refine ⟨_, ?_, hvalue, hvalue.symm ▸ hbound⟩
  rw [execTempEncHWith, tempEncHWord_ok tie h]
  exact delivered_completeRes_ok _ s

/-- Outside the domain, TEMP_ENC_H raises INVALID_ARGUMENT. -/
theorem execTempEncHWith_raised (tie : RoundTie) (b : Word) (s : State)
    (h : 12790 < b.toInt.natAbs) : Raised (execTempEncHWith tie b s) s 3 := by
  rw [execTempEncHWith, tempEncHWord_error tie h]
  exact raised_completeRes_error .invalidArgument s

/-! ### The signed view of a word (R9, R100) -/

theorem s16_of_le {w : Word} (h : w.toNat ≤ 0x7FFF) : s16 w = w.toNat :=
  BitVec.toInt_eq_toNat_of_lt (by omega)

theorem s16_of_lt {w : Word} (h : 0x7FFF < w.toNat) : s16 w = -(0x10000 - w.toNat) := by
  rw [s16, BitVec.toInt_eq_toNat_cond, if_neg (by omega)]
  omega

/-! ### The obligations -/

/-- Settles O23: the check is on the exact hundredths, and rounding keeps the domain
(`roundDiv10_natAbs_le`); `exec` and `execWith` run the command at their P_ROUND_TIE. -/
theorem tempEncHRoundsToTenths : Obligations.TempEncHRoundsToTenths := by
  unfold Obligations.TempEncHRoundsToTenths
  refine ⟨fun tie b s => ?_, fun _ b s => ?_, fun _ _ _ _ => rfl⟩
  · exact ⟨execTempEncHWith_delivered tie b s, execTempEncHWith_raised tie b s⟩
  · exact ⟨execTempEncHWith_delivered Config.roundTie b s,
      execTempEncHWith_raised Config.roundTie b s⟩

/-- Settles O25: TEMP_DEC ends with its operand as the word computed. -/
theorem tempDecDeliversTheWord : Obligations.TempDecDeliversTheWord := by
  unfold Obligations.TempDecDeliversTheWord
  exact fun a _ s => delivered_completeRes_ok a s

/-- Settles O26, by the two cases of the signed view. -/
theorem tempValueIsSignedTenths : Obligations.TempValueIsSignedTenths := by
  unfold Obligations.TempValueIsSignedTenths
  intro w
  constructor <;> intro h
  · rw [tempValue, s16_of_le h, Int.cast_natCast]
  · rw [tempValue, s16_of_lt h, Int.cast_neg]

end Sys2Proof.Machine


/-! PROOF. What each CRC command writes, and the obligations about one CRC command (R122 to R125). -/

namespace Sys2Proof.Machine

open Sys2Proof.Claims

/-! ### What a CRC command writes -/

theorem exec_crcInit (a b : Word) (s : State) :
    exec (.crcInit a b) s = .next (succeed { crc := some 0xFFFF } s) := rfl

/-- `b[7:0]`, as the number it is taken to be (R7, R123). -/
theorem loByte_eq_ofNat (b : Word) : loByte b = BitVec.ofNat 8 b.toNat := by
  apply BitVec.eq_of_toNat_eq
  simp [loByte]

theorem exec_crcByte_of_le (a : Word) {b : Word} (s : State) (h : b.toNat ≤ 0xFF) :
    exec (.crcByte a b) s =
      .next (succeed { crc := some (crcUpdate s.crc (BitVec.ofNat 8 b.toNat)) } s) := by
  change execCrcByte a b s = _
  rw [execCrcByte, readByte_ok h, loByte_eq_ofNat]
  rfl

theorem exec_crcByte_of_lt (a : Word) {b : Word} (s : State) (h : 0xFF < b.toNat) :
    exec (.crcByte a b) s = completeRes (.error .invalidArgument) s := by
  change execCrcByte a b s = _
  rw [execCrcByte, readByte_error h.not_ge]
  rfl

theorem exec_crcRead (a b : Word) (s : State) :
    exec (.crcRead a b) s = completeRes (.ok s.crc) s := rfl

theorem exec_crcCheck (a b : Word) (s : State) :
    exec (.crcCheck a b) s = completeRes (.ok (if s.crc = 0 then 1 else 0)) s := by
  change completeRes (.ok (bitWord (s.crc == 0))) s = _
  simp only [bitWord, beq_iff_eq]

/-- A success that writes CRC alone, in the words of the statements. -/
theorem setsCrc_of_succeed {i : Instr} {s : State} {c : Word}
    (h : exec i s = .next (succeed { crc := some c } s)) : SetsCrc i s c :=
  ⟨_, h, rfl, rfl, rfl, statusReads_statusOk false s.status⟩

/-! ### The obligations -/

/-- Settles O10: CRC_INIT succeeds and writes CRC alone. -/
theorem crcInitStartsNewCrc : Obligations.CrcInitStartsNewCrc := by
  unfold Obligations.CrcInitStartsNewCrc
  exact fun a b s => setsCrc_of_succeed (exec_crcInit a b s)

/-- Settles O11, by the two answers of reading `b` as a byte. -/
theorem crcByteFoldsOneByte : Obligations.CrcByteFoldsOneByte := by
  unfold Obligations.CrcByteFoldsOneByte
  intro a b s
  constructor <;> intro h
  · exact setsCrc_of_succeed (exec_crcByte_of_le a s h)
  · rw [Raises, exec_crcByte_of_lt a s h]
    exact raised_completeRes_error .invalidArgument s

/-- Settles O12: both commands deliver a computed word, and CRC_CHECK's is chosen by CRC = 0. -/
theorem crcReadAndCheckDeliver : Obligations.CrcReadAndCheckDeliver := by
  unfold Obligations.CrcReadAndCheckDeliver
  intro a b s
  refine ⟨?_, fun h => ?_, fun h => ?_⟩
  · rw [Delivers, exec_crcRead]
    exact delivered_completeRes_ok s.crc s
  · rw [Delivers, exec_crcCheck, if_pos h]
    exact delivered_completeRes_ok 1 s
  · rw [Delivers, exec_crcCheck, if_neg h]
    exact delivered_completeRes_ok 0 s

end Sys2Proof.Machine

/-! PROOF. The words the ADDR commands compute, and the obligation about their ends (R140 to R142). -/

namespace Sys2Proof.Machine

open Sys2Proof.Claims

/-! ### The addresses of a unit, and the errors instead of them -/

theorem addrStatusWord_ok {b : Word} (h : IsUid b) :
    addrStatusWord b = .ok (BitVec.ofNat 16 (2000 + 6 * (b.toNat - 100))) := by
  rw [addrStatusWord, readUid_ok h]; rfl

theorem addrStatusWord_error {b : Word} (h : ¬ IsUid b) : addrStatusWord b = .error .invalidUnit := by
  rw [addrStatusWord, readUid_error h]; rfl

theorem addrCapWord_ok {b : Word} (h : IsUid b) :
    addrCapWord b = .ok (BitVec.ofNat 16 (1000 + 3 * (b.toNat - 100))) := by
  rw [addrCapWord, readUid_ok h]; rfl

theorem addrCapWord_error {b : Word} (h : ¬ IsUid b) : addrCapWord b = .error .invalidUnit := by
  rw [addrCapWord, readUid_error h]; rfl

theorem addrCtrlWord_ok {a b : Word} (h : IsUid b) (hk : 1 ≤ a.toNat ∧ a.toNat ≤ 3) :
    addrCtrlWord a b = .ok (BitVec.ofNat 16 (1999 + a.toNat + 3 * (b.toNat - 100))) := by
  rw [addrCtrlWord, readUid_ok h, readWordNumber_ok hk]; rfl

theorem addrCtrlWord_invalidArgument {a b : Word} (h : IsUid b) (hk : ¬ (1 ≤ a.toNat ∧ a.toNat ≤ 3)) :
    addrCtrlWord a b = .error .invalidArgument := by
  rw [addrCtrlWord, readUid_ok h, readWordNumber_error hk]; rfl

/-- The uid is checked first: a bad one is INVALID_UNIT whatever the word number (R243). -/
theorem addrCtrlWord_invalidUnit (a : Word) {b : Word} (h : ¬ IsUid b) :
    addrCtrlWord a b = .error .invalidUnit := by
  rw [addrCtrlWord, readUid_error h]

/-! ### The end of a command that computes one word -/

/-- A command whose meaning is to deliver `r` delivers the word `r` holds. -/
theorem delivers_of_completeRes {i : Instr} {s : State} {r : Except BlockError Word} {v : Word}
    (hx : exec i s = completeRes r s) (hr : r = .ok v) : Delivers i s v false := by
  rw [Delivers, hx, hr]
  exact delivered_completeRes_ok v s

/-- A command whose meaning is to deliver `r` raises the error `r` holds. -/
theorem raises_of_completeRes {i : Instr} {s : State} {r : Except BlockError Word} {e : BlockError}
    (hx : exec i s = completeRes r s) (hr : r = .error e) : Raises i s e.errCode.code.toNat := by
  rw [Raises, hx, hr]
  exact raised_completeRes_error e s

theorem exec_addrStatus (a b : Word) (s : State) :
    exec (.addrStatus a b) s = completeRes (addrStatusWord b) s := rfl

theorem exec_addrCap (a b : Word) (s : State) :
    exec (.addrCap a b) s = completeRes (addrCapWord b) s := rfl

theorem exec_addrCtrl (a b : Word) (s : State) :
    exec (.addrCtrl a b) s = completeRes (addrCtrlWord a b) s := rfl

/-! ### The obligation -/

/-- Settles O18, by the two answers of reading `b` as a uid and, for ADDR_CTRL of a uid, the two of
reading `a` as a word number. -/
theorem addressCommandsDeliverWireAddresses : Obligations.AddressCommandsDeliverWireAddresses := by
  unfold Obligations.AddressCommandsDeliverWireAddresses
  intro a b s
  refine ⟨fun h => ⟨?_, ?_, fun hk => ?_, fun hk => ?_⟩, fun h => ⟨?_, ?_, ?_⟩⟩
  · exact delivers_of_completeRes (exec_addrStatus a b s) (addrStatusWord_ok h)
  · exact delivers_of_completeRes (exec_addrCap a b s) (addrCapWord_ok h)
  · exact delivers_of_completeRes (exec_addrCtrl a b s) (addrCtrlWord_ok h hk)
  · exact raises_of_completeRes (exec_addrCtrl a b s) (addrCtrlWord_invalidArgument h (by omega))
  · exact raises_of_completeRes (exec_addrStatus a b s) (addrStatusWord_error h)
  · exact raises_of_completeRes (exec_addrCap a b s) (addrCapWord_error h)
  · exact raises_of_completeRes (exec_addrCtrl a b s) (addrCtrlWord_invalidUnit a h)

end Sys2Proof.Machine

/-! PROOF. The words that DEC_LINK, EXTRACT and the signed bytes compute, as numbers, and the obligations
about them (R171 to R174). -/

namespace Sys2Proof.Machine

open Sys2Proof.Claims

/-! ### Bits, fields and bytes as numbers (R7, R9) -/

/-- Bit `k` of a word, as the word that holds it. -/
theorem bitWord_getLsbD (w : Word) (k : Nat) :
    bitWord (w.getLsbD k) = BitVec.ofNat 16 (w.toNat / 2 ^ k % 2) := by
  rw [BitVec.getLsbD, Nat.testBit_eq_decide_div_mod_eq, bitWord]
  obtain h | h := Nat.mod_two_eq_zero_or_one (w.toNat / 2 ^ k) <;> simp [h]

theorem field_eq_ofNat (w : Word) (lo : Nat) {width : Nat} (h : width ≤ 16) :
    field w lo width = BitVec.ofNat 16 (w.toNat / 2 ^ lo % 2 ^ width) := by
  rw [← field_toNat w lo width h, BitVec.ofNat_toNat, BitVec.setWidth_eq]

theorem loByte_toNat (w : Word) : (loByte w).toNat = w.toNat % 256 := by
  rw [loByte_eq_ofNat, BitVec.toNat_ofNat]

theorem hiByte_toNat (w : Word) : (hiByte w).toNat = w.toNat / 256 := by
  rw [hiByte, BitVec.extractLsb'_toNat, Nat.shiftRight_eq_div_pow]
  omega

/-- Sign extension keeps the signed value of the byte. -/
theorem sext8_toInt (x : Byte) : (sext8 x).toInt = x.toInt := by
  have hlow := BitVec.le_toInt x
  have hhigh := BitVec.toInt_lt (x := x)
  exact BitVec.toInt_ofInt_eq_self (by decide) (by omega) (by omega)

/-- The signed value of a byte, split on its sign bit. -/
theorem byte_toInt (x : Byte) :
    x.toInt = if x.toNat < 128 then (x.toNat : Int) else (x.toNat : Int) - 256 := by
  rw [BitVec.toInt_eq_toNat_cond]
  split <;> split <;> omega

/-! ### The words the decoders compute, and the errors instead of them -/

theorem linkWord_ok (a : Word) {b : Word} (h : IsUid b) :
    linkWord a b = .ok (BitVec.ofNat 16 (a.toNat / 2 ^ (b.toNat - 100) % 2)) := by
  rw [linkWord, readUid_ok h, ← bitWord_getLsbD]; rfl

theorem linkWord_error (a : Word) {b : Word} (h : ¬ IsUid b) :
    linkWord a b = .error .invalidUnit := by
  rw [linkWord, readUid_error h]; rfl

/-- A good descriptor names a field of the word, and EXTRACT computes that field. -/
theorem extractWord_ok (a : Word) {b : Word}
    (h : b.toNat < 0x100 ∧ b.toNat % 16 + (b.toNat / 16 % 16 + 1) ≤ 16) :
    extractWord a b = .ok (field a (b.toNat % 16) (b.toNat / 16 % 16 + 1)) := by
  rw [extractWord, readDescriptor_ok h, field, fieldMask, BitVec.shiftLeft_zero]; rfl

theorem extractWord_error (a : Word) {b : Word}
    (h : ¬ (b.toNat < 0x100 ∧ b.toNat % 16 + (b.toNat / 16 % 16 + 1) ≤ 16)) :
    extractWord a b = .error .invalidArgument := by
  rw [extractWord, readDescriptor_error h]; rfl

/-! ### The commands -/

theorem exec_decLink (a b : Word) (s : State) :
    exec (.decLink a b) s = completeRes (linkWord a b) s := rfl

theorem exec_decSbyteLo (a b : Word) (s : State) :
    exec (.decSbyteLo a b) s = completeRes (.ok (sext8 (loByte a))) s := rfl

theorem exec_decSbyteHi (a b : Word) (s : State) :
    exec (.decSbyteHi a b) s = completeRes (.ok (sext8 (hiByte a))) s := rfl

theorem exec_extract (a b : Word) (s : State) :
    exec (.extract a b) s = completeRes (extractWord a b) s := rfl

/-! ### The obligations -/

/-- Settles O31: both commands deliver a sign-extended byte, whose value is the byte's own
(`sext8_toInt`). -/
theorem signedBytesAreSignExtended : Obligations.SignedBytesAreSignExtended := by
  unfold Obligations.SignedBytesAreSignExtended
  intro a b s
  refine ⟨⟨_, delivers_of_completeRes (exec_decSbyteLo a b s) rfl, ?_⟩,
    ⟨_, delivers_of_completeRes (exec_decSbyteHi a b s) rfl, ?_⟩⟩
  · rw [sext8_toInt, byte_toInt, loByte_toNat, Int.natCast_emod, Int.cast_ofNat_Int]
  · rw [sext8_toInt, byte_toInt, hiByte_toNat, Int.natCast_ediv, Int.cast_ofNat_Int]

/-- Settles O32, by the two answers of reading `b` as a field descriptor; a good one names a field of at
most 16 bits, so the delivered field is the number stated (`field_eq_ofNat`). -/
theorem extractDeliversField : Obligations.ExtractDeliversField := by
  unfold Obligations.ExtractDeliversField
  rintro a b s lo width rfl rfl
  constructor <;> intro h
  · rw [← field_eq_ofNat a _ (by omega)]
    exact delivers_of_completeRes (exec_extract a b s) (extractWord_ok a h)
  · exact raises_of_completeRes (exec_extract a b s) (extractWord_error a (by omega))

/-- Settles O30, by the two answers of reading `b` as a uid. -/
theorem decLinkDeliversUnitBit : Obligations.DecLinkDeliversUnitBit := by
  unfold Obligations.DecLinkDeliversUnitBit
  intro a b s
  constructor <;> intro h
  · exact delivers_of_completeRes (exec_decLink a b s) (linkWord_ok a h)
  · exact raises_of_completeRes (exec_decLink a b s) (linkWord_error a h)

end Sys2Proof.Machine

/-! PROOF. The encoders: a code operand is checked against its width and put into its field, by `ins` of
R9, and the obligations about the word they deliver (R192 to R198, R201). -/

namespace Sys2Proof.Machine

open Sys2Proof.Claims

/-! ### Commands with a code operand (R192) -/

/-- A command with a code operand does nothing but read it against the width of its field and deliver a
word made from it. -/
theorem exec_of_codeWidth {i : Instr} {width : Nat} (h : codeWidth i.bKind = some width) :
    ∃ f : Word → Word, ∀ s, exec i s = completeRes ((readCode width i.opB).map f) s := by
  cases i <;> cases h <;> exact ⟨_, fun _ => rfl⟩

theorem delivers_of_codeWidth {i : Instr} {width : Nat} (h : codeWidth i.bKind = some width)
    (hb : i.opB.toNat < 2 ^ width) (s : State) : ∃ v, Delivers i s v false := by
  obtain ⟨f, hx⟩ := exec_of_codeWidth h
  exact ⟨f i.opB, delivers_of_completeRes (hx s) (by rw [readCode_ok hb]; rfl)⟩

theorem raises_of_codeWidth {i : Instr} {width : Nat} (h : codeWidth i.bKind = some width)
    (hb : 2 ^ width ≤ i.opB.toNat) (s : State) : Raises i s 3 := by
  obtain ⟨f, hx⟩ := exec_of_codeWidth h
  exact raises_of_completeRes (e := .invalidArgument) (hx s) (by rw [readCode_error hb.not_gt]; rfl)

/-! ### Putting a code into its field (R9) -/

/-- A code that fits its field has no bit outside it. -/
theorem and_fieldMask_of_lt {v : Word} {width : Nat} (h : v.toNat < 2 ^ width) :
    v &&& fieldMask 0 width = v := by
  apply BitVec.eq_of_getLsbD_eq
  intro i hi
  rw [BitVec.getLsbD_and, fieldMask_getLsbD _ _ _ hi]
  by_cases hw : i < width
  · simp [hw]
  · have hbit : v.getLsbD i = false :=
      Nat.testBit_lt_two_pow (h.trans_le (Nat.pow_le_pow_right (by decide) (not_lt.mp hw)))
    simp [hbit]

/-- Inserting a code that fits needs no cut to the field's width. -/
theorem ins_of_lt (w : Word) (lo : Nat) {width : Nat} {v : Word} (h : v.toNat < 2 ^ width) :
    ins w lo width v = (w &&& ~~~ fieldMask lo width) ||| (v <<< lo) := by
  rw [ins, and_fieldMask_of_lt h]

/-- Setting all bits of a field. -/
theorem or_fieldMask_getLsbD (w : Word) (lo width : Nat) {i : Nat} (hi : i < 16) :
    (w ||| fieldMask lo width).getLsbD i =
      if lo ≤ i ∧ i < lo + width then true else w.getLsbD i := by
  rw [BitVec.getLsbD_or, fieldMask_getLsbD _ _ _ hi]
  by_cases h : lo ≤ i ∧ i < lo + width
  · simp [h, show i - lo < width by omega]
  · have hout : ¬ (lo ≤ i ∧ i - lo < width) := by omega
    rw [if_neg h, ← Bool.decide_and, decide_eq_false hout, Bool.or_false]

/-- FAN_ENABLE is bits 6:5 (R191). -/
theorem or_fanEnable_getLsbD (a : Word) {i : Nat} (hi : i < 16) :
    (a ||| fanEnable).getLsbD i = if i = 5 ∨ i = 6 then true else a.getLsbD i := by
  rw [show fanEnable = fieldMask 5 2 by decide, or_fieldMask_getLsbD a 5 2 hi]
  exact if_congr (by omega) rfl rfl

/-- The word W0_COMPOUND puts its code into: FAN_ENABLE and the on/off bit set (R197). -/
theorem or_fanEnable_or_one_getLsbD (a : Word) {i : Nat} (hi : i < 16) :
    (a ||| fanEnable ||| 0x0001#16).getLsbD i =
      if i = 0 ∨ i = 5 ∨ i = 6 then true else a.getLsbD i := by
  rw [BitVec.getLsbD_or, or_fanEnable_getLsbD a hi, BitVec.getLsbD_one]
  by_cases h0 : i = 0 <;> simp [h0]

/-- Inverting the on/off bit (R194). -/
theorem togglePowerWord_getLsbD (a : Word) (i : Nat) :
    (togglePowerWord a).getLsbD i = if i = 0 then !a.getLsbD 0 else a.getLsbD i := by
  have hone : (0x0001 : Word).getLsbD i = decide (i = 0) := BitVec.getLsbD_one
  rw [togglePowerWord, BitVec.getLsbD_xor, hone]
  by_cases h0 : i = 0 <;> simp [h0]

/-! ### The words the encoders compute for a code that fits -/

theorem setPowerWord_ok (a : Word) {b : Word} (h : b.toNat < 2 ^ 1) :
    setPowerWord a b = .ok (ins a 0 1 b) := by
  rw [setPowerWord, readCode_ok h, ins_of_lt a 0 h, BitVec.shiftLeft_zero]; rfl

theorem setFanDirWord_ok (a : Word) {b : Word} (h : b.toNat < 2 ^ 3) :
    setFanDirWord a b = .ok (ins (a ||| fanEnable) 8 3 b) := by
  rw [setFanDirWord, readCode_ok h, ins_of_lt _ 8 h]; rfl

theorem setFanVolWord_ok (a : Word) {b : Word} (h : b.toNat < 2 ^ 3) :
    setFanVolWord a b = .ok (ins (a ||| fanEnable) 12 3 b) := by
  rw [setFanVolWord, readCode_ok h, ins_of_lt _ 12 h]; rfl

theorem compoundWord_ok (a : Word) {b : Word} (h : b.toNat < 2 ^ 3) :
    compoundWord a b = .ok (ins (a ||| fanEnable ||| 0x0001#16) 12 3 b) := by
  rw [compoundWord, readCode_ok h, ins_of_lt _ 12 h]; rfl

theorem setModeWord_ok (a : Word) {b : Word} (h : b.toNat < 2 ^ 4) :
    setModeWord a b = .ok (ins a 0 4 b) := by
  rw [setModeWord, readCode_ok h, ins_of_lt a 0 h, BitVec.shiftLeft_zero]; rfl

theorem setOpStatWord_ok (a : Word) {b : Word} (h : b.toNat < 2 ^ 4) :
    setOpStatWord a b = .ok (ins a 8 4 b) := by
  rw [setOpStatWord, readCode_ok h, ins_of_lt a 8 h]; rfl

/-! ### The commands -/

theorem exec_w0SetPower (a b : Word) (s : State) :
    exec (.w0SetPower a b) s = completeRes (setPowerWord a b) s := rfl

theorem exec_w0TogglePower (a b : Word) (s : State) :
    exec (.w0TogglePower a b) s = completeRes (.ok (togglePowerWord a)) s := rfl

theorem exec_w0SetFandir (a b : Word) (s : State) :
    exec (.w0SetFandir a b) s = completeRes (setFanDirWord a b) s := rfl

theorem exec_w0SetFanvol (a b : Word) (s : State) :
    exec (.w0SetFanvol a b) s = completeRes (setFanVolWord a b) s := rfl

theorem exec_w0Compound (a b : Word) (s : State) :
    exec (.w0Compound a b) s = completeRes (compoundWord a b) s := rfl

theorem exec_w1SetMode (a b : Word) (s : State) :
    exec (.w1SetMode a b) s = completeRes (setModeWord a b) s := rfl

theorem exec_w1SetOpstat (a b : Word) (s : State) :
    exec (.w1SetOpstat a b) s = completeRes (setOpStatWord a b) s := rfl

/-! ### The obligations -/

/-- Settles O39, by the two answers of reading the code (`exec_of_codeWidth`). -/
theorem codeCheckIsFieldWidth : Obligations.CodeCheckIsFieldWidth := by
  unfold Obligations.CodeCheckIsFieldWidth
  exact fun i s width h => ⟨fun hb => delivers_of_codeWidth h hb s,
    fun hb => raises_of_codeWidth h hb s⟩

/-- Settles O35: a code that fits is inserted at bit 0, and the toggle inverts that bit. -/
theorem powerEncodersChangeBitZero : Obligations.PowerEncodersChangeBitZero := by
  unfold Obligations.PowerEncodersChangeBitZero
  intro a b s
  refine ⟨fun h => ?_, fun h => raises_of_codeWidth (i := .w0SetPower a b) rfl h s, ?_⟩
  · refine ⟨_, delivers_of_completeRes (exec_w0SetPower a b s) (setPowerWord_ok a (by omega)),
      fun i hi => ?_⟩
    rw [ins_getLsbD _ _ _ _ _ hi]
    by_cases h0 : i = 0 <;> simp [h0]
  · exact ⟨_, delivers_of_completeRes (exec_w0TogglePower a b s) rfl,
      fun i _ => togglePowerWord_getLsbD a i⟩

/-- Settles O36: a code that fits is inserted into the word with FAN_ENABLE set, and for W0_COMPOUND with
bit 0 set too. -/
theorem fanEncodersReplaceTheirField : Obligations.FanEncodersReplaceTheirField := by
  unfold Obligations.FanEncodersReplaceTheirField
  intro a b s
  refine ⟨fun h => ?_, fun h => ?_⟩
  · have hb : b.toNat < 2 ^ 3 := by omega
    refine ⟨⟨_, delivers_of_completeRes (exec_w0SetFandir a b s) (setFanDirWord_ok a hb), ?_⟩,
      ⟨_, delivers_of_completeRes (exec_w0SetFanvol a b s) (setFanVolWord_ok a hb), ?_⟩,
      ⟨_, delivers_of_completeRes (exec_w0Compound a b s) (compoundWord_ok a hb), ?_⟩⟩
    all_goals intro i hi; rw [ins_getLsbD _ _ _ _ _ hi]
    · exact if_congr (by omega) rfl (or_fanEnable_getLsbD a hi)
    · exact if_congr (by omega) rfl (or_fanEnable_getLsbD a hi)
    · exact if_congr (by omega) rfl (or_fanEnable_or_one_getLsbD a hi)
  · exact ⟨raises_of_codeWidth (i := .w0SetFandir a b) rfl h s,
      raises_of_codeWidth (i := .w0SetFanvol a b) rfl h s,
      raises_of_codeWidth (i := .w0Compound a b) rfl h s⟩

/-- Settles O37: a code that fits is inserted at bit 0 or at bit 8. -/
theorem wordOneCodeEncodersReplaceTheirField : Obligations.WordOneCodeEncodersReplaceTheirField := by
  unfold Obligations.WordOneCodeEncodersReplaceTheirField
  intro a b s
  refine ⟨fun h => ?_, fun h => ?_⟩
  · have hb : b.toNat < 2 ^ 4 := by omega
    refine ⟨⟨_, delivers_of_completeRes (exec_w1SetMode a b s) (setModeWord_ok a hb), ?_⟩,
      ⟨_, delivers_of_completeRes (exec_w1SetOpstat a b s) (setOpStatWord_ok a hb), ?_⟩⟩
    all_goals intro i hi; rw [ins_getLsbD _ _ _ _ _ hi]; exact if_congr (by omega) rfl rfl
  · exact ⟨raises_of_codeWidth (i := .w1SetMode a b) rfl h s,
      raises_of_codeWidth (i := .w1SetOpstat a b) rfl h s⟩

end Sys2Proof.Machine

/-! PROOF. What CLR_ERR does to the state, and the obligation about it (R220). -/

namespace Sys2Proof.Machine

open Sys2Proof.Claims

/-- CLR_ERR writes STATUS alone, whatever its operands. -/
theorem exec_clrErr (a b : Word) (s : State) :
    exec (.clrErr a b) s = .next { s with status := statusCleared s.status } := rfl

/-- STATUS after CLR_ERR, in the words of the statements (R220). -/
theorem statusReads_statusCleared (st : Word) : StatusReads (statusCleared st) 0 false false st := by
  obtain ⟨herr, hstk, hlbl, hres⟩ := statusCleared_fields st
  exact ⟨by rw [← statusErr_toNat, herr]; rfl, hstk, hlbl,
    by rw [← statusReserved_toNat, hres, statusReserved_toNat]⟩

/-- Settles O41: CLR_ERR always completes, writes STATUS alone (`exec_clrErr`), and leaves it as
`statusReads_statusCleared` says. -/
theorem clrErrClearsErrorState : Obligations.ClrErrClearsErrorState := by
  unfold Obligations.ClrErrClearsErrorState
  intro a b s
  exact ⟨_, exec_clrErr a b s, rfl, rfl, rfl, statusReads_statusCleared s.status⟩

end Sys2Proof.Machine

/-! PROOF. When a command raises an error and which one, and the obligation about it (R241 to R243). All of
it is read off `exec_end`, which says once how each command ends. -/

namespace Sys2Proof.Machine

open Sys2Proof.Claims

/-! ### The kind of the first bad operand (R243) -/

theorem admits_uid_iff (b : Word) : OperandKind.uid.admits b = true ↔ IsUid b :=
  decide_eq_true_iff

/-- A uid is always the operand `b` (R74). -/
theorem aKind_ne_uid (i : Instr) : i.aKind ≠ .uid := by
  cases i <;> nofun

/-- The operand to report, `b` before `a`, is a uid exactly when the command has a bad uid. -/
theorem reportedKind_eq_uid_iff (i : Instr) :
    (if i.bKind.admits i.opB then i.aKind else i.bKind) = .uid ↔ i.bKind = .uid ∧ ¬ IsUid i.opB := by
  split
  next hb =>
    refine iff_of_false (aKind_ne_uid i) fun ⟨hk, hu⟩ => hu ?_
    rwa [hk, admits_uid_iff] at hb
  next hb =>
    refine ⟨fun hk => ⟨hk, ?_⟩, And.left⟩
    rwa [hk, admits_uid_iff] at hb

/-- A bad operand is INVALID_ARGUMENT unless it is a uid, which `operandError .uid` makes INVALID_UNIT. -/
theorem operandError_of_ne_uid {k : OperandKind} (h : k ≠ .uid) :
    operandError k = .invalidArgument := by
  cases k with
  | uid => exact absurd rfl h
  | _ => rfl

/-! ### How a command ends, by whether its operands lie in their domains (R241, R242) -/

/-- A command whose operands lie in their domains completes with ERR = NONE. -/
theorem exec_of_wellFormed {i : Instr} (h : i.wellFormed = true) (s : State) :
    ∃ t, exec i s = .next t ∧ t.status.toNat % 8 = 0 := by
  cases exec_end i s with
  | cleared _ _ _ hx => exact ⟨_, hx, (statusReads_statusCleared s.status).1⟩
  | succeeded w _ _ _ _ hx => exact ⟨_, hx, (statusReads_statusOk w.lbl s.status).1⟩
  | rejected _ _ hwf _ _ _ => simp [h] at hwf

/-- Taking an error has the effects of R242, in the words of the statements. -/
theorem raised_raiseError (e : BlockError) (s : State) :
    Raised (.next (raiseError e s)) s e.errCode.code.toNat :=
  raised_completeRes_error e s

/-- A command with a bad operand raises the error of its first bad one, `b` before `a`. -/
theorem raises_of_not_wellFormed {i : Instr} (h : i.wellFormed = false) (s : State) :
    Raises i s
      (operandError (if i.bKind.admits i.opB then i.aKind else i.bKind)).errCode.code.toNat := by
  cases exec_end i s with
  | cleared _ hwf _ _ => simp [h] at hwf
  | succeeded _ _ hwf _ _ _ => simp [h] at hwf
  | rejected e _ _ _ he hx =>
    rw [Raises, hx, ← he]
    exact raised_raiseError e s

/-! ### The obligation -/

/-- Settles O42: a command fails exactly outside its operands' domains, with the error of the first bad
operand, which is INVALID_UNIT exactly for a bad uid (`reportedKind_eq_uid_iff`); an unassigned opcode
raises ILLEGAL_OP and is never run as a command. -/
theorem errorsExactlyOnBadOperands : Obligations.ErrorsExactlyOnBadOperands := by
  unfold Obligations.ErrorsExactlyOnBadOperands
  refine ⟨fun i s => ⟨fun h => exec_of_wellFormed h s, fun h => ⟨fun hu => ?_, fun hu => ?_⟩⟩,
    fun p s e hr hd => ?_⟩
  · have hx := raises_of_not_wellFormed h s
    rwa [(reportedKind_eq_uid_iff i).mpr hu] at hx
  · have hx := raises_of_not_wellFormed h s
    rwa [operandError_of_ne_uid (mt (reportedKind_eq_uid_iff i).mp hu)] at hx
  · rw [present_unassigned hr hd]
    exact raised_raiseError .illegalOp s

end Sys2Proof.Machine

/-! PROOF. The command format both ways (R70, R74), what a step does with the inputs presented (R28,
R30, R280), and the STATUS invariant along a step (R23 to R27). -/

namespace Sys2Proof.Machine

open Sys2Proof.Claims

/-! ### Packing and unpacking (R70, R74) -/

/-- A command word is made of its three fields and nothing else. -/
theorem packCmd_fields (w : CmdWord) : packCmd (cmdOp w) (cmdA w) (cmdB w) = w := by
  have hlow : cmdA w ++ cmdB w = w.extractLsb' 0 32 :=
    BitVec.extractLsb'_append_extractLsb'_eq_extractLsb' rfl
  have hall : cmdOp w ++ w.extractLsb' 0 32 = w.extractLsb' 0 40 :=
    BitVec.extractLsb'_append_extractLsb'_eq_extractLsb' rfl
  rw [packCmd, BitVec.append_assoc, BitVec.cast_eq, hlow, hall, BitVec.extractLsb'_eq_self]

/-- A decoded command holds the operand fields presented, used or not. -/
theorem operands_of_decode {op : Byte} {a b : Word} {i : Instr} (h : decode op a b = .ok i) :
    i.opA = a ∧ i.opB = b := by
  unfold decode at h
  split at h <;> cases h <;> exact ⟨rfl, rfl⟩

/-- A command's own fields decode to it. -/
theorem decode_fields (i : Instr) : decode i.opcode i.opA i.opB = .ok i := by
  cases i <;> rfl

theorem decodeWord_encode (i : Instr) : decodeWord i.encode = .ok i := by
  rw [decodeWord, Instr.encode, cmdOp_packCmd, cmdA_packCmd, cmdB_packCmd, decode_fields]

theorem encode_of_decodeWord {w : CmdWord} {i : Instr} (h : decodeWord w = .ok i) : i.encode = w := by
  obtain ⟨ha, hb⟩ := operands_of_decode h
  rw [Instr.encode, opcode_of_decode h, ha, hb, packCmd_fields]

/-- The host presents a command by its encoding, and the block runs that command (R28, R70). -/
theorem present_inputOf (i : Instr) (s : State) : present (inputOf i) s = exec i s := by
  have hd : decode (inputOf i).op (inputOf i).a (inputOf i).b = .ok i := decodeWord_encode i
  rw [present, hd]; rfl

/-! ### The STATUS invariant (R23 to R27) -/

theorem errCode_toNat_le (e : BlockError) : e.errCode.code.toNat ≤ 3 := by
  cases e <;> decide

theorem reset_inv : State.reset.Inv := by decide

theorem inv_succeed {s : State} (h : s.Inv) (w : Writes) : (succeed w s).Inv := by
  obtain ⟨herr, -, -, hres⟩ := statusOk_fields w.lbl s.status
  obtain ⟨hres₀, -⟩ := h
  simp [State.Inv, herr, hres, hres₀]

theorem inv_raiseError {s : State} (h : s.Inv) (e : BlockError) : (raiseError e s).Inv := by
  obtain ⟨herr, hstk, hlbl, hres⟩ := statusError_fields e s.status
  obtain ⟨hres₀, -⟩ := h
  simp [State.Inv, herr, hstk, hlbl, hres, hres₀, errCode_toNat_le]

theorem inv_cleared {s : State} (h : s.Inv) :
    ({ s with status := statusCleared s.status } : State).Inv := by
  obtain ⟨herr, -, -, hres⟩ := statusCleared_fields s.status
  obtain ⟨hres₀, -⟩ := h
  simp [State.Inv, herr, hres, hres₀]

/-- Every command keeps the invariant, by the ways a command can end. -/
theorem exec_keeps_inv {i : Instr} {s t : State} (h : s.Inv) (hx : exec i s = .next t) : t.Inv := by
  cases exec_end i s with
  | cleared _ _ _ hend => cases hend.symm.trans hx; exact inv_cleared h
  | succeeded w _ _ _ _ hend => cases hend.symm.trans hx; exact inv_succeed h w
  | rejected e _ _ _ _ hend => cases hend.symm.trans hx; exact inv_raiseError h e

/-- Every presentation keeps the invariant: reset, a command, or an unassigned opcode. -/
theorem present_keeps_inv {p : HostInput} {s t : State} (h : s.Inv) (hx : present p s = .next t) :
    t.Inv := by
  obtain ⟨-, hend⟩ | ⟨-, i, -, hend⟩ | ⟨-, e, -, hend⟩ := present_cases p s
  · cases hend.symm.trans hx; exact reset_inv
  · exact exec_keeps_inv h (hend.symm.trans hx)
  · cases hend.symm.trans hx; exact inv_raiseError h .illegalOp

/-! ### A run over all that is presented -/

/-- Every presentation completes, so a run takes them all (R240, R292). -/
theorem runInputs_completes (ps : List HostInput) :
    ∀ s : State, ∃ t, runInputs s ps = .next t ∧ t.inputs = [] := by
  induction ps with
  | nil => exact fun s => ⟨_, runInputs_nil s, rfl⟩
  | cons p ps ih =>
    intro s
    obtain ⟨u, hx, hin, -⟩ := present_status p { s with inputs := ps }
    rw [runInputs_cons s u p ps hx hin]
    exact ih u

/-! ### The obligations -/

/-- Settles O1: a command's encoding decodes to it, and a decoded word is made of the command's fields.
-/
theorem decodeEncodeAgree : Obligations.DecodeEncodeAgree := by
  unfold Obligations.DecodeEncodeAgree
  exact fun w i => ⟨encode_of_decodeWord, fun h => h ▸ decodeWord_encode i⟩

/-- Settles O8: a step acts as its first presentation does, and that keeps the invariant. -/
theorem stepKeepsStatusInvariant : Obligations.StepKeepsStatusInvariant := by
  unfold Obligations.StepKeepsStatusInvariant
  intro s t h hstep
  obtain ⟨-, hnone⟩ | ⟨p, rest, -, hp⟩ := step_cases s
  · cases hnone.symm.trans hstep
  · exact present_keeps_inv (s := { s with inputs := rest }) h (hp.symm.trans hstep)

/-- Settles O50, by `runInputs_completes`. -/
theorem everySequenceRunsToItsEnd : Obligations.EverySequenceRunsToItsEnd := by
  unfold Obligations.EverySequenceRunsToItsEnd
  exact fun s ps => runInputs_completes ps s

/-- Settles O3: the decoder evaluated at the words of the spec's programs. -/
theorem specWordsDecode : Obligations.SpecWordsDecode := by
  unfold Obligations.SpecWordsDecode
  exact ⟨rfl, rfl, rfl, rfl, rfl, rfl, rfl, rfl⟩

/-- Settles O4: the step presents its first input, and that decodes to the command. -/
theorem stepRunsPresentedCommand : Obligations.StepRunsPresentedCommand := by
  unfold Obligations.StepRunsPresentedCommand
  intro s p rest i hin hr hd
  rw [step_of_inputs hin, present, hr, hd]; rfl

/-- Settles O6: the presentation is a reset, which writes every register and keeps the later inputs. -/
theorem resetInputSetsEveryRegister : Obligations.ResetInputSetsEveryRegister := by
  unfold Obligations.ResetInputSetsEveryRegister
  intro s p rest hin hr
  refine ⟨resetRegisters { s with inputs := rest }, ?_, rfl, rfl, rfl, rfl⟩
  rw [step_of_inputs hin]
  exact if_pos hr

/-- Settles O7, by `reset_inv`. -/
theorem resetMeetsStatusInvariant : Obligations.ResetMeetsStatusInvariant := reset_inv

end Sys2Proof.Machine

/-! PROOF. Which registers a command writes and reads: the writers of CRC (R21), what keeps RES (R22,
R242), and the commands whose results depend on their operands alone (R20, R52). -/

namespace Sys2Proof.Machine

open Sys2Proof.Claims

/-! ### The writers of CRC and of RES (R21, R22) -/

/-- A CRC_BYTE whose operands lie in their domains has a byte as `b` (R123). -/
theorem opB_le_of_crcByte {i : Instr} (hop : i.opcode = 0x02) (hwf : i.wellFormed = true) :
    i.opB.toNat ≤ 0xFF := by
  have hd := decode_fields i
  rw [hop] at hd
  have hi : Instr.crcByte i.opA i.opB = i := Except.ok.inj hd
  have hbyte : (Instr.crcByte i.opA i.opB).wellFormed = true := by rw [hi]; exact hwf
  exact of_decide_eq_true hbyte

/-! ### The commands that deliver a word and a label (R20, R52) -/

/-- The end of a command that delivers a word and its LBL, or raises an error: CRC is not written. -/
def deliver (r : Except BlockError (Word × Bool)) (s : State) : Host.Outcome State Fault Refusal :=
  complete (r.map fun p => { res := some p.1, lbl := p.2 }) s

theorem completeRes_eq_deliver (r : Except BlockError Word) (s : State) :
    completeRes r s = deliver (r.map fun v => (v, false)) s := by
  cases r <;> rfl

theorem exec_eq_deliver_of_completeRes {i : Instr} {r : Except BlockError Word}
    (h : ∀ s, exec i s = completeRes r s) : ∃ r, ∀ s, exec i s = deliver r s :=
  ⟨_, fun s => (h s).trans (completeRes_eq_deliver r s)⟩

/-- The encoders, decoders, address and temperature commands read no register: what they deliver, or the
error they raise, is made from their operands (R20). -/
theorem exec_reads_operands {i : Instr}
    (h : i.opcode ∉ ([0x01, 0x02, 0x03, 0x04, 0x7F] : List Byte)) :
    ∃ r, ∀ s, exec i s = deliver r s := by
  cases i
  case crcInit | crcByte | crcRead | crcCheck | clrErr => simp [Instr.opcode] at h
  case w0TogglePower | w1FilterSet | w1FilterClr | tempDec | decPower | decFandir | decFanvol | decMode
      | decOpstat | decReady | decSbyteLo | decSbyteHi =>
    exact ⟨.ok (_, _), fun _ => rfl⟩
  all_goals exact exec_eq_deliver_of_completeRes fun _ => rfl

/-- With CRC_READ and CRC_CHECK beside these, CRC is the one register read. -/
theorem exec_reads_crc {i : Instr} (h : i.opcode ∉ ([0x01, 0x02, 0x7F] : List Byte)) :
    ∃ r : Word → Except BlockError (Word × Bool), ∀ s, exec i s = deliver (r s.crc) s := by
  by_cases hcrc : i.opcode ∈ ([0x03, 0x04] : List Byte)
  · cases i
    case crcRead a b =>
      exact ⟨fun c => .ok (c, false), fun s => by rw [exec_crcRead, completeRes_eq_deliver]; rfl⟩
    case crcCheck a b =>
      exact ⟨fun c => .ok (if c = 0 then 1 else 0, false),
        fun s => by rw [exec_crcCheck, completeRes_eq_deliver]; rfl⟩
    all_goals simp [Instr.opcode] at hcrc
  · obtain ⟨r, hx⟩ := exec_reads_operands (i := i) (by simp_all)
    exact ⟨fun _ => r, hx⟩

/-- Delivering leaves CRC alone, and so the same delivery again leaves RES and CRC as they are. -/
theorem deliver_twice (r : Except BlockError (Word × Bool)) (s : State) :
    ∃ t u, deliver r s = .next t ∧ t.crc = s.crc ∧ deliver r t = .next u ∧ u.res = t.res ∧
      u.crc = t.crc := by
  cases r with
  | ok p => exact ⟨_, _, rfl, rfl, rfl, rfl, rfl⟩
  | error e => exact ⟨_, _, rfl, rfl, rfl, rfl, rfl⟩

/-- The same delivery in two states reports the same ERR and LBL, and on success the same RES. -/
theorem deliver_agrees (r : Except BlockError (Word × Bool)) {s s' t t' : State}
    (ht : deliver r s = .next t) (ht' : deliver r s' = .next t') :
    t.status.toNat % 8 = t'.status.toNat % 8 ∧ (t.status.toNat % 8 = 0 → t.res = t'.res) ∧
      t.status.getLsbD 4 = t'.status.getLsbD 4 := by
  cases r with
  | ok p =>
    cases ht; cases ht'
    obtain ⟨herr, -, hlbl, -⟩ := statusReads_statusOk p.2 s.status
    obtain ⟨herr', -, hlbl', -⟩ := statusReads_statusOk p.2 s'.status
    exact ⟨herr.trans herr'.symm, fun _ => rfl, hlbl.trans hlbl'.symm⟩
  | error e =>
    cases ht; cases ht'
    obtain ⟨herr, -, hlbl, -⟩ := statusReads_statusError e s.status
    obtain ⟨herr', -, hlbl', -⟩ := statusReads_statusError e s'.status
    refine ⟨herr.trans herr'.symm, fun h0 => ?_, hlbl.trans hlbl'.symm⟩
    exact absurd (herr.symm.trans h0) (by cases e <;> decide)

/-! ### The obligations -/

/-- Settles O43: by the ways a command can end, CRC is written by a success of CRC_INIT or CRC_BYTE
alone. -/
theorem onlyCrcCommandsWriteCrc : Obligations.OnlyCrcCommandsWriteCrc := by
  unfold Obligations.OnlyCrcCommandsWriteCrc
  intro i s
  cases exec_end i s with
  | cleared _ _ _ hx => exact ⟨_, hx, .inl rfl⟩
  | rejected e _ _ _ _ hx => exact ⟨_, hx, .inl rfl⟩
  | succeeded w _ hwf _ hreg hx =>
    refine ⟨_, hx, ?_⟩
    by_cases h1 : i.opcode = 0x01
    · exact .inr (.inl h1)
    by_cases h2 : i.opcode = 0x02
    · exact .inr (.inr ⟨h2, opB_le_of_crcByte h2 hwf⟩)
    · rw [if_neg (not_or.mpr ⟨h1, h2⟩)] at hreg
      exact .inl (by rw [succeed_crc, hreg]; rfl)

/-- Settles O44: CLR_ERR and errors write STATUS alone, and a success reports no error, so that there
the command is CRC_INIT or CRC_BYTE, which do not write RES. -/
theorem resKeptByCrcAndClearAndErrors : Obligations.ResKeptByCrcAndClearAndErrors := by
  unfold Obligations.ResKeptByCrcAndClearAndErrors
  intro i s
  cases exec_end i s with
  | cleared _ _ _ hx => exact ⟨_, hx, fun _ => rfl⟩
  | rejected e _ _ _ _ hx => exact ⟨_, hx, fun _ => rfl⟩
  | succeeded w hop _ _ hreg hx =>
    refine ⟨_, hx, fun h => ?_⟩
    have herr : (succeed w s).status.toNat % 8 = 0 := (statusReads_statusOk w.lbl s.status).1
    rw [herr] at h
    have hcrc : i.opcode = 0x01 ∨ i.opcode = 0x02 := by
      simpa [show i.opcode ≠ 127#8 from hop] using h
    rw [if_pos hcrc] at hreg
    rw [succeed_res, hreg]; rfl

/-- Settles O48: such a command reads at most CRC and does not write it, so that it delivers the same
twice; the byte 0 after reset shows the opposite for CRC_BYTE. -/
theorem commandsButCrcByteAreIdempotent : Obligations.CommandsButCrcByteAreIdempotent := by
  unfold Obligations.CommandsButCrcByteAreIdempotent
  refine ⟨fun i s h => ?_, 0, State.reset, _, _, rfl, rfl, by decide +kernel⟩
  obtain ⟨r, hx⟩ := exec_reads_crc h
  obtain ⟨t, u, ht, hcrc, hu, hsame⟩ := deliver_twice (r s.crc) s
  exact ⟨t, u, (hx s).trans ht, by rw [hx t, hcrc, hu], hsame⟩

/-- Settles O49: such a command reads no register (`exec_reads_operands`), and one delivery reports the
same from any two states. -/
theorem resultsDependOnOperandsAlone : Obligations.ResultsDependOnOperandsAlone := by
  unfold Obligations.ResultsDependOnOperandsAlone
  intro i s s' t t' h ht ht'
  obtain ⟨r, hx⟩ := exec_reads_operands h
  exact deliver_agrees r ((hx s).symm.trans ht) ((hx s').symm.trans ht')

end Sys2Proof.Machine

/-! PROOF. The CRC as a linear map (R120, R121): a round keeps exclusive or and only 0 goes to 0, and
two bytes fold in as one word of 16 rounds. With it frames and their CRCs (R126, R127) and the command
sequences that compute and check one (R78, R127). -/

namespace Sys2Proof.Machine

open Sys2Proof.Claims

/-! ### Rounds (R121) -/

theorem crcShift_eq_xor (c : Word) :
    crcShift c = (c >>> 1) ^^^ (if c.getLsbD 0 then crcPoly else 0) := by
  unfold crcShift
  split <;> simp

theorem crcShift_xor (c d : Word) : crcShift (c ^^^ d) = crcShift c ^^^ crcShift d := by
  have hpoly : (if (c ^^^ d).getLsbD 0 then crcPoly else 0) =
      (if c.getLsbD 0 then crcPoly else 0) ^^^ (if d.getLsbD 0 then crcPoly else 0) := by
    rw [BitVec.getLsbD_xor]
    cases c.getLsbD 0 <;> cases d.getLsbD 0 <;> simp
  simp only [crcShift_eq_xor, hpoly, BitVec.ushiftRight_xor_distrib]
  ac_rfl

/-- The polynomial's top bit makes a round invertible: bit 15 of the result is bit 0 of the state. -/
theorem crcShift_getLsbD_top (c : Word) : (crcShift c).getLsbD 15 = c.getLsbD 0 := by
  rw [crcShift_eq_xor, BitVec.getLsbD_xor, BitVec.getLsbD_ushiftRight,
    BitVec.getLsbD_of_ge c _ (by omega), Bool.false_xor]
  cases c.getLsbD 0 <;> rfl

theorem eq_zero_of_crcShift {c : Word} (h : crcShift c = 0) : c = 0 := by
  have hbit : c.getLsbD 0 = false := by rw [← crcShift_getLsbD_top, h]; rfl
  have hshift : c >>> 1 = 0 := by rwa [crcShift, if_neg (ne_true_of_eq_false hbit)] at h
  apply BitVec.eq_of_getLsbD_eq
  intro i hi
  cases i with
  | zero => exact hbit
  | succ i =>
    have hnext := congrArg (·.getLsbD i) hshift
    simpa [BitVec.getLsbD_ushiftRight, Nat.add_comm] using hnext

/-- A round of an even state only halves it. -/
theorem crcShift_ofNat_two_mul {m : Nat} (h : 2 * m < 2 ^ 16) :
    crcShift (BitVec.ofNat 16 (2 * m)) = BitVec.ofNat 16 m := by
  have heven : (BitVec.ofNat 16 (2 * m)).getLsbD 0 = false := by
    rw [BitVec.getLsbD_ofNat]; simp
  apply BitVec.eq_of_toNat_eq
  rw [crcShift, if_neg (ne_true_of_eq_false heven), BitVec.toNat_ushiftRight, BitVec.toNat_ofNat,
    BitVec.toNat_ofNat, Nat.shiftRight_eq_div_pow]
  omega

theorem crcShifts_xor (n : Nat) (c d : Word) :
    crcShifts n (c ^^^ d) = crcShifts n c ^^^ crcShifts n d := by
  induction n generalizing c d with
  | zero => rfl
  | succ n ih => rw [crcShifts, crcShift_xor, ih]; rfl

theorem crcShifts_add (m n : Nat) (c : Word) : crcShifts (m + n) c = crcShifts n (crcShifts m c) := by
  induction m generalizing c with
  | zero => rw [Nat.zero_add]; rfl
  | succ m ih => rw [Nat.succ_add, crcShifts, ih]; rfl

theorem crcShifts_eq_zero_iff (n : Nat) (c : Word) : crcShifts n c = 0 ↔ c = 0 := by
  induction n generalizing c with
  | zero => rfl
  | succ n ih =>
    rw [crcShifts, ih]
    exact ⟨eq_zero_of_crcShift, by rintro rfl; rfl⟩

/-- Rounds over zero bits only move the bits above them down. -/
theorem crcShifts_ofNat_mul_two_pow (n : Nat) {m : Nat} (h : m * 2 ^ n < 2 ^ 16) :
    crcShifts n (BitVec.ofNat 16 (m * 2 ^ n)) = BitVec.ofNat 16 m := by
  induction n with
  | zero => rw [Nat.pow_zero, Nat.mul_one]; rfl
  | succ n ih =>
    have hdouble : m * 2 ^ (n + 1) = 2 * (m * 2 ^ n) := by ring
    rw [hdouble] at h ⊢
    rw [crcShifts, crcShift_ofNat_two_mul h, ih (by omega)]

/-! ### Two bytes as a word (R47) -/

theorem append_toNat (hi lo : Byte) : (hi ++ lo : Word).toNat = lo.toNat + 256 * hi.toNat := by
  have hlt := lo.isLt
  rw [BitVec.toNat_append, ← Nat.shiftLeft_add_eq_or_of_lt hlt, Nat.shiftLeft_eq]
  omega

@[simp] theorem loByte_append (hi lo : Byte) : loByte (hi ++ lo) = lo := by
  apply BitVec.eq_of_toNat_eq
  rw [loByte_toNat, append_toNat]
  omega

@[simp] theorem hiByte_append (hi lo : Byte) : hiByte (hi ++ lo) = hi := by
  apply BitVec.eq_of_toNat_eq
  rw [hiByte_toNat, append_toNat]
  omega

@[simp] theorem hiByte_append_loByte (w : Word) : (hiByte w ++ loByte w : Word) = w := by
  apply BitVec.eq_of_toNat_eq
  rw [append_toNat, loByte_toNat, hiByte_toNat]
  omega

theorem append_eq_xor (hi lo : Byte) :
    (hi ++ lo : Word) = lo.zeroExtend 16 ^^^ BitVec.ofNat 16 (hi.toNat * 2 ^ 8) := by
  apply BitVec.eq_of_getLsbD_eq
  intro i hlt
  rw [BitVec.getLsbD_append, BitVec.getLsbD_xor, BitVec.getLsbD_setWidth, BitVec.getLsbD_ofNat,
    Nat.testBit_mul_two_pow]
  by_cases hbyte : i < 8
  · simp [hbyte, hlt, show ¬ 8 ≤ i by omega]
  · have hlo : lo.getLsbD i = false := BitVec.getLsbD_of_ge lo i (by omega)
    rw [if_neg hbyte, hlo]
    simp [hlt, show 8 ≤ i by omega, BitVec.getLsbD]

/-! ### Bytes folded into the CRC (R121, R127) -/

/-- Two bytes fold in like one word, the second byte above the first: 16 rounds of one exclusive or. -/
theorem crcUpdate_crcUpdate (c : Word) (x y : Byte) :
    crcUpdate (crcUpdate c x) y = crcShifts 16 (c ^^^ (y ++ x : Word)) := by
  have hy : y.zeroExtend 16 = crcShifts 8 (BitVec.ofNat 16 (y.toNat * 2 ^ 8)) := by
    rw [crcShifts_ofNat_mul_two_pow 8 (by omega)]
    exact (BitVec.ofNat_toNat 16 y).symm
  rw [append_eq_xor, ← BitVec.xor_assoc, crcShifts_add 8 8, crcShifts_xor 8, ← hy]
  rfl

/-- The two bytes that bring a CRC state to 0 are its own, the low one first. -/
theorem crcUpdate_crcUpdate_eq_zero_iff (c : Word) (x y : Byte) :
    crcUpdate (crcUpdate c x) y = 0 ↔ c = (y ++ x : Word) := by
  rw [crcUpdate_crcUpdate, crcShifts_eq_zero_iff]
  exact BitVec.xor_eq_zero_iff

theorem crcOf_append_pair (xs : List Byte) (x y : Byte) :
    crcOf (xs ++ [x, y]) = crcUpdate (crcUpdate (crcOf xs) x) y := by
  simp [crcOf]

/-- R120: the residue of a sequence followed by its own CRC. -/
theorem crcOf_withCrc (xs : List Byte) : crcOf (withCrc xs) = 0 := by
  rw [withCrc, crcOf_append_pair, crcUpdate_crcUpdate_eq_zero_iff, hiByte_append_loByte]

theorem withCrc_length (xs : List Byte) : (withCrc xs).length = xs.length + 2 := by
  simp [withCrc]

theorem exists_eq_append_pair {ys : List Byte} (h : 2 ≤ ys.length) :
    ∃ xs x y, ys = xs ++ [x, y] := by
  have hlast : (ys.drop (ys.length - 2)).length = 2 := by rw [List.length_drop]; omega
  obtain ⟨x, y, hxy⟩ := List.length_eq_two.mp hlast
  exact ⟨ys.take (ys.length - 2), x, y, by rw [← hxy, List.take_append_drop]⟩

theorem frameValid_append_pair {xs : List Byte} (x y : Byte) (h : 1 ≤ xs.length) :
    frameValid (xs ++ [x, y]) = true ↔ crcOf xs = (y ++ x : Word) := by
  have hlen : 3 ≤ (xs ++ [x, y]).length := by simp; omega
  have hcut : (xs ++ [x, y]).length - 2 = xs.length := by simp
  rw [frameValid, hcut, List.take_left, List.drop_left, decide_eq_true hlen, Bool.true_and, beq_iff_eq,
    ← append_toNat]
  exact BitVec.toNat_inj

/-- R127: a frame of 3 bytes or more is CRC-valid exactly when the CRC of all its bytes is 0. -/
theorem frameValid_iff {ys : List Byte} (h : 3 ≤ ys.length) :
    frameValid ys = true ↔ crcOf ys = 0 := by
  obtain ⟨xs, x, y, rfl⟩ := exists_eq_append_pair (ys := ys) (by omega)
  have hxs : 1 ≤ xs.length := by simpa using h
  rw [frameValid_append_pair x y hxs, crcOf_append_pair, crcUpdate_crcUpdate_eq_zero_iff]

/-! ### The command sequences of a frame (R78, R127) -/

/-- A run over commands goes on from the state the first one leaves. -/
theorem runCommands_cons {i : Instr} {is : List Instr} {s t : State}
    (hx : exec i { s with inputs := is.map inputOf } = .next t) (hin : t.inputs = is.map inputOf) :
    runCommands s (i :: is) = runCommands t is :=
  runInputs_cons s t (inputOf i) (is.map inputOf) ((present_inputOf i _).trans hx) hin

/-- Between two states of a run, STK and STATUS[15:5] are as they were (R25, R27). -/
def KeepsHistory (s t : State) : Prop :=
  t.status.getLsbD 3 = s.status.getLsbD 3 ∧ t.status.toNat / 32 = s.status.toNat / 32

theorem KeepsHistory.trans {s t u : State} (h : KeepsHistory s t) (h' : KeepsHistory t u) :
    KeepsHistory s u :=
  ⟨h'.1.trans h.1, h'.2.trans h.2⟩

theorem runCommands_of_setsCrc {i : Instr} {is : List Instr} {s : State} {c : Word}
    (h : SetsCrc i { s with inputs := is.map inputOf } c) :
    ∃ t, runCommands s (i :: is) = runCommands t is ∧ t.crc = c ∧ KeepsHistory s t := by
  obtain ⟨t, hx, hcrc, -, hin, -, hstk, -, hres⟩ := h
  exact ⟨t, runCommands_cons hx hin, hcrc, hstk, hres⟩

/-- The last command of a run delivers its word. -/
theorem runCommands_of_delivers {i : Instr} {s : State} {v : Word}
    (h : Delivers i { s with inputs := [] } v false) :
    ∃ t, runCommands s [i] = .next t ∧ t.res = v ∧ t.crc = s.crc ∧ t.inputs = [] ∧
      StatusReads t.status 0 (s.status.getLsbD 3) false s.status := by
  obtain ⟨t, hx, hres, hcrc, hin, hstatus⟩ := h
  exact ⟨{ t with inputs := [] }, runCommands_cons hx hin, hres, hcrc, rfl, hstatus⟩

/-- `CRC_BYTE b=x` folds in the byte `x` (R123). -/
theorem setsCrc_crcByteOf (x : Byte) (s : State) : SetsCrc (crcByteOf x) s (crcUpdate s.crc x) := by
  have hx : (x.zeroExtend 16).toNat = x.toNat := BitVec.toNat_setWidth_of_le (by decide)
  have hle : (x.zeroExtend 16).toNat ≤ 0xFF := by omega
  have h := setsCrc_of_succeed (exec_crcByte_of_le 0 s hle)
  rwa [hx, BitVec.ofNat_toNat, BitVec.setWidth_eq] at h

theorem runCommands_crcBytes (xs : List Byte) (is : List Instr) (s : State) :
    ∃ t, runCommands s (xs.map crcByteOf ++ is) = runCommands t is ∧
      t.crc = xs.foldl crcUpdate s.crc ∧ KeepsHistory s t := by
  induction xs generalizing s with
  | nil => exact ⟨s, rfl, rfl, rfl, rfl⟩
  | cons x xs ih =>
    obtain ⟨t, hrun, hcrc, hkeep⟩ := runCommands_of_setsCrc
      (setsCrc_crcByteOf x { s with inputs := (xs.map crcByteOf ++ is).map inputOf })
    obtain ⟨u, hrun', hcrc', hkeep'⟩ := ih t
    exact ⟨u, hrun.trans hrun', by rw [hcrc', hcrc]; rfl, hkeep.trans hkeep'⟩

/-- CRC_INIT and CRC_BYTE for every byte leave the CRC of the bytes, from any state of the block. -/
theorem runCommands_crcOf (xs : List Byte) (is : List Instr) (s : State) :
    ∃ t, runCommands s (.crcInit 0 0 :: (xs.map crcByteOf ++ is)) = runCommands t is ∧
      t.crc = crcOf xs ∧ KeepsHistory s t := by
  obtain ⟨t, hrun, hcrc, hkeep⟩ := runCommands_of_setsCrc
    (setsCrc_of_succeed (exec_crcInit 0 0 { s with inputs := (xs.map crcByteOf ++ is).map inputOf }))
  obtain ⟨u, hrun', hcrc', hkeep'⟩ := runCommands_crcBytes xs is t
  exact ⟨u, hrun.trans hrun', by rw [hcrc', hcrc]; rfl, hkeep.trans hkeep'⟩

theorem delivers_crcRead (s : State) : Delivers (.crcRead 0 0) s s.crc false :=
  delivers_of_completeRes (exec_crcRead 0 0 s) rfl

theorem delivers_crcCheck (s : State) :
    Delivers (.crcCheck 0 0) s (if s.crc = 0 then 1 else 0) false :=
  delivers_of_completeRes (exec_crcCheck 0 0 s) rfl

/-- The check of a received frame leaves 1 in RES for a CRC-valid one and 0 for any other. -/
theorem runCommands_crcCheckFrame {ys : List Byte} (h : 3 ≤ ys.length) (s : State) :
    ∃ t, runCommands s (crcCheckFrame ys) = .next t ∧ t.res = if frameValid ys then 1 else 0 := by
  obtain ⟨t, hrun, hcrc, -⟩ := runCommands_crcOf ys [.crcCheck 0 0] s
  obtain ⟨u, hrun', hres, -⟩ := runCommands_of_delivers (delivers_crcCheck { t with inputs := [] })
  refine ⟨u, hrun.trans hrun', hres.trans (if_congr ?_ rfl rfl)⟩
  rw [frameValid_iff h, ← hcrc]

/-! ### The obligations -/

/-- Settles O14: the rounds are linear, and so is the exclusive or with the byte. -/
theorem crcUpdateIsLinear : Obligations.CrcUpdateIsLinear := by
  unfold Obligations.CrcUpdateIsLinear
  intro c d x y
  have hargs : c ^^^ d ^^^ (x ^^^ y).zeroExtend 16 =
      (c ^^^ x.zeroExtend 16) ^^^ (d ^^^ y.zeroExtend 16) := by
    rw [BitVec.zeroExtend, BitVec.setWidth_xor]
    ac_rfl
  rw [crcUpdate, hargs, crcShifts_xor]; rfl

/-- Settles O15: the residue of `crcOf_withCrc`, by which a frame is valid. -/
theorem ownCrcLeavesZeroResidue : Obligations.OwnCrcLeavesZeroResidue := by
  unfold Obligations.OwnCrcLeavesZeroResidue
  refine fun xs => ⟨crcOf_withCrc xs, fun h => (frameValid_iff ?_).mpr (crcOf_withCrc xs)⟩
  rw [withCrc_length]
  omega

/-- Settles O16: validity is residue 0 (`frameValid_iff`), which is what CRC_CHECK tests, and the two
bytes that bring a state to 0 are the state's own. -/
theorem crcCheckDecidesFrameValidity : Obligations.CrcCheckDecidesFrameValidity := by
  unfold Obligations.CrcCheckDecidesFrameValidity
  refine ⟨fun s ys h => ⟨frameValid_iff h, runCommands_crcCheckFrame h s⟩, fun c x y x' y' h h' => ?_⟩
  rw [crcUpdate_crcUpdate_eq_zero_iff] at h h'
  have hsame : (y ++ x : Word) = (y' ++ x' : Word) := h.symm.trans h'
  exact ⟨by simpa using congrArg loByte hsame, by simpa using congrArg hiByte hsame⟩

/-- Settles O17: the sequence leaves the CRC of its bytes, and CRC_READ copies it into RES. -/
theorem crcFrameMacroDeliversCrc : Obligations.CrcFrameMacroDeliversCrc := by
  unfold Obligations.CrcFrameMacroDeliversCrc
  intro s xs
  obtain ⟨t, hrun, hcrc, hstk, hreserved⟩ := runCommands_crcOf xs [.crcRead 0 0] s
  obtain ⟨u, hrun', hres, hcrc', hin, hstatus⟩ :=
    runCommands_of_delivers (delivers_crcRead { t with inputs := [] })
  refine ⟨u, hrun.trans hrun', hres.trans hcrc, hcrc'.trans hcrc, hin, ?_⟩
  obtain ⟨herr, hstk', hlbl, hreserved'⟩ := hstatus
  exact ⟨herr, hstk'.trans hstk, hlbl, hreserved'.trans hreserved⟩

/-- Settles O13: the CRC evaluated at the bytes of R120, R121 and R124. -/
theorem crcKnownValues : Obligations.CrcKnownValues := by
  unfold Obligations.CrcKnownValues
  exact ⟨by decide +kernel, rfl, by decide +kernel⟩

end Sys2Proof.Machine

/-! PROOF. What the end of a command tells back about the word it computed, and with it the laws of the
addresses (R41 to R43, R143). -/

namespace Sys2Proof.Machine

open Sys2Proof.Claims

/-! ### The word behind an end -/

theorem errCode_toNat_ne_zero (e : BlockError) : e.errCode.code.toNat ≠ 0 := by
  cases e <;> decide

theorem errCode_toNat_eq_three_iff (e : BlockError) :
    e.errCode.code.toNat = 3 ↔ e = .invalidArgument := by
  cases e <;> decide

/-- A command that computes `r` delivers a word exactly when `r` is that word. -/
theorem delivered_completeRes_iff {r : Except BlockError Word} {s : State} {v : Word} :
    Delivered (completeRes r s) s v false ↔ r = .ok v := by
  refine ⟨fun h => ?_, fun h => h ▸ delivered_completeRes_ok v s⟩
  obtain ⟨t, hx, hres, -, -, herr, -⟩ := h
  cases r with
  | ok w => cases hx; exact congrArg Except.ok hres
  | error e =>
    cases hx
    exact absurd ((statusReads_statusError e s.status).1.symm.trans herr) (errCode_toNat_ne_zero e)

/-- A command that computes `r` raises INVALID_ARGUMENT exactly when `r` is that error. -/
theorem raised_completeRes_iff {r : Except BlockError Word} {s : State} :
    Raised (completeRes r s) s 3 ↔ r = .error .invalidArgument := by
  refine ⟨fun h => ?_, fun h => h ▸ raised_completeRes_error .invalidArgument s⟩
  obtain ⟨t, hx, -, -, -, herr, -⟩ := h
  cases r with
  | ok w => cases hx; cases (statusReads_statusOk false s.status).1.symm.trans herr
  | error e =>
    cases hx
    have hcode := (statusReads_statusError e s.status).1.symm.trans herr
    exact congrArg Except.error ((errCode_toNat_eq_three_iff e).mp hcode)

theorem delivers_iff_of_completeRes {i : Instr} {s : State} {r : Except BlockError Word} {v : Word}
    (hx : exec i s = completeRes r s) : Delivers i s v false ↔ r = .ok v := by
  rw [Delivers, hx, delivered_completeRes_iff]

/-! ### The ADDR commands, by the numbers they deliver (R140 to R142) -/

theorem ok_ofNat_eq_ok_iff {n : Nat} (hn : n < 2 ^ 16) {v : Word} :
    (.ok (BitVec.ofNat 16 n) : Except BlockError Word) = .ok v ↔ v.toNat = n := by
  rw [Except.ok.injEq, ← BitVec.toNat_inj, BitVec.toNat_ofNat, Nat.mod_eq_of_lt hn, eq_comm]

theorem addrStatusWord_eq_ok_iff {b v : Word} :
    addrStatusWord b = .ok v ↔ IsUid b ∧ v.toNat = 2000 + 6 * (b.toNat - 100) := by
  by_cases h : IsUid b
  · have hb := h.2
    rw [addrStatusWord_ok h, ok_ofNat_eq_ok_iff (by omega)]
    simp [h]
  · simp [addrStatusWord_error h, h]

theorem addrCapWord_eq_ok_iff {b v : Word} :
    addrCapWord b = .ok v ↔ IsUid b ∧ v.toNat = 1000 + 3 * (b.toNat - 100) := by
  by_cases h : IsUid b
  · have hb := h.2
    rw [addrCapWord_ok h, ok_ofNat_eq_ok_iff (by omega)]
    simp [h]
  · simp [addrCapWord_error h, h]

theorem addrCtrlWord_eq_ok_iff {a b v : Word} :
    addrCtrlWord a b = .ok v ↔
      IsUid b ∧ (1 ≤ a.toNat ∧ a.toNat ≤ 3) ∧ v.toNat = 1999 + a.toNat + 3 * (b.toNat - 100) := by
  by_cases h : IsUid b
  · by_cases hk : 1 ≤ a.toNat ∧ a.toNat ≤ 3
    · have hb := h.2
      rw [addrCtrlWord_ok h hk, ok_ofNat_eq_ok_iff (by omega)]
      simp [h, hk]
    · simp [addrCtrlWord_invalidArgument h hk, hk]
  · simp [addrCtrlWord_invalidUnit a h, h]

theorem delivers_addrStatus_iff {a b v : Word} {s : State} :
    Delivers (.addrStatus a b) s v false ↔ IsUid b ∧ v.toNat = 2000 + 6 * (b.toNat - 100) :=
  (delivers_iff_of_completeRes (exec_addrStatus a b s)).trans addrStatusWord_eq_ok_iff

theorem delivers_addrCap_iff {a b v : Word} {s : State} :
    Delivers (.addrCap a b) s v false ↔ IsUid b ∧ v.toNat = 1000 + 3 * (b.toNat - 100) :=
  (delivers_iff_of_completeRes (exec_addrCap a b s)).trans addrCapWord_eq_ok_iff

theorem delivers_addrCtrl_iff {a b v : Word} {s : State} :
    Delivers (.addrCtrl a b) s v false ↔
      IsUid b ∧ (1 ≤ a.toNat ∧ a.toNat ≤ 3) ∧ v.toNat = 1999 + a.toNat + 3 * (b.toNat - 100) :=
  (delivers_iff_of_completeRes (exec_addrCtrl a b s)).trans addrCtrlWord_eq_ok_iff

/-- ADDR_CTRL reaches every address of its block: the unit by thirds, the word number by the rest. -/
theorem exists_delivers_addrCtrl_iff {v : Word} {s : State} :
    (∃ a b, Delivers (.addrCtrl a b) s v false) ↔ 2000 ≤ v.toNat ∧ v.toNat ≤ 2047 := by
  simp only [delivers_addrCtrl_iff, IsUid]
  refine ⟨fun ⟨a, b, hb, ha, hv⟩ => by omega, fun h => ?_⟩
  refine ⟨BitVec.ofNat 16 ((v.toNat - 2000) % 3 + 1), BitVec.ofNat 16 (100 + (v.toNat - 2000) / 3), ?_⟩
  simp only [BitVec.toNat_ofNat]
  omega

/-! ### Units and the address map (R41 to R43) -/

@[simp] theorem uidOf_toNat (unit : Fin 16) : (uidOf unit).toNat = 100 + unit.val := by
  rw [uidOf, BitVec.toNat_ofNat]
  omega

theorem isUid_uidOf (unit : Fin 16) : IsUid (uidOf unit) := by
  rw [IsUid, uidOf_toNat]
  omega

theorem unitOf_uidOf (unit : Fin 16) : unitOf (uidOf unit) = .ok unit := by
  rw [unitOf, readUid_ok (isUid_uidOf unit), uidOf_toNat]
  exact congrArg Except.ok (Fin.ext (by simp))

/-- A uid is that of a unit. -/
theorem exists_unit_of_isUid {uid : Word} (h : IsUid uid) : ∃ unit, uid = uidOf unit := by
  obtain ⟨hlow, hhigh⟩ := h
  refine ⟨⟨uid.toNat - 100, by omega⟩, BitVec.eq_of_toNat_eq ?_⟩
  rw [uidOf_toNat]
  exact (Nat.add_sub_cancel' hlow).symm

theorem unitOf_error {uid : Word} (h : ¬ IsUid uid) : unitOf uid = .error .invalidUnit := by
  rw [unitOf, readUid_error h]; rfl

theorem wire_status (unit : Fin 16) : (MapItem.status unit).wire = 2000 + 6 * unit.val := by
  simp only [MapItem.wire, MapItem.phys, MapItem.space, Space.base]
  omega

theorem wire_capability (unit : Fin 16) : (MapItem.capability unit).wire = 1000 + 3 * unit.val := by
  simp only [MapItem.wire, MapItem.phys, MapItem.space, Space.base]
  omega

theorem wire_control (k : Fin 3) (unit : Fin 16) :
    (MapItem.control k unit).wire = 2000 + k.val + 3 * unit.val := by
  simp only [MapItem.wire, MapItem.phys, MapItem.space, Space.base]
  omega

/-! ### The obligations -/

/-- Settles O19, on the numbers the commands deliver: linear functions of the uid and the word number.
-/
theorem addressesIncreaseWithoutOverlap : Obligations.AddressesIncreaseWithoutOverlap := by
  unfold Obligations.AddressesIncreaseWithoutOverlap
  intro s
  refine ⟨fun a b b' v v' hlt => ⟨?_, ?_, ?_⟩, fun a a' b v v' hlt => ?_, fun a a' b b' v => ?_,
    fun v => exists_delivers_addrCtrl_iff⟩
  · simp only [delivers_addrStatus_iff, IsUid]; omega
  · simp only [delivers_addrCap_iff, IsUid]; omega
  · simp only [delivers_addrCtrl_iff, IsUid]; omega
  · simp only [delivers_addrCtrl_iff, IsUid]; omega
  · simp only [delivers_addrCtrl_iff, IsUid, ← BitVec.toNat_inj]; omega

/-- Settles O20: the uid and the word number name the item, whose wire address is the number delivered.
-/
theorem addressCommandsMatchAddressMap : Obligations.AddressCommandsMatchAddressMap := by
  unfold Obligations.AddressCommandsMatchAddressMap
  rintro a b s unit k rfl hk
  have hu := isUid_uidOf unit
  refine ⟨unitOf_uidOf unit,
    ⟨_, delivers_of_completeRes (exec_addrStatus a _ s) (addrStatusWord_ok hu), ?_⟩,
    ⟨_, delivers_of_completeRes (exec_addrCap a _ s) (addrCapWord_ok hu), ?_⟩,
    ⟨_, delivers_of_completeRes (exec_addrCtrl a _ s) (addrCtrlWord_ok hu (by omega)), ?_⟩⟩
  · rw [wire_status, BitVec.toNat_ofNat, uidOf_toNat]; omega
  · rw [wire_capability, BitVec.toNat_ofNat, uidOf_toNat]; omega
  · rw [wire_control, BitVec.toNat_ofNat, uidOf_toNat]; omega

end Sys2Proof.Machine

/-! PROOF. The setpoint encoders' domain, rounding and round trip (R100 to R106). -/

namespace Sys2Proof.Machine

open Sys2Proof.Claims

/-! ### TEMP_ENC_T (R103) -/

theorem exec_tempEncT (a b : Word) (s : State) :
    exec (.tempEncT a b) s = completeRes (tempEncTWord b) s := rfl

theorem tempEncTWord_ok {b : Word} (h : b.toInt.natAbs ≤ 1279) : tempEncTWord b = .ok b := by
  rw [tempEncTWord, readTenths_ok (by omega)]
  exact congrArg Except.ok (BitVec.ofInt_toInt)

theorem tempEncTWord_error {b : Word} (h : 1279 < b.toInt.natAbs) :
    tempEncTWord b = .error .invalidArgument := by
  rw [tempEncTWord, readTenths_error (by omega)]; rfl

/-- The words outside the setpoint domain, as unsigned numbers: one range (assumption 18). -/
theorem setpoint_rejected_iff (b : Word) :
    1279 < b.toInt.natAbs ↔ 0x0500 ≤ b.toNat ∧ b.toNat ≤ 0xFB00 := by
  rw [BitVec.toInt_eq_toNat_cond]
  split <;> omega

/-! ### Rounding at a tie and at whole tenths (R102) -/

theorem roundDiv10_halfEven_of_tie {c : Int} (h : c % 10 = 5) :
    roundDiv10 .halfEven c = if c / 10 % 2 = 0 then c / 10 else c / 10 + 1 := by
  simp [roundDiv10, h]

theorem roundDiv10_halfAway_of_tie {c : Int} (h : c % 10 = 5) :
    roundDiv10 .halfAway c = if 0 ≤ c then c / 10 + 1 else c / 10 := by
  simp [roundDiv10, h]

/-- Whole tenths need no rounding. -/
theorem ten_mul_roundDiv10 (tie : RoundTie) {c : Int} (h : c % 10 = 0) :
    10 * roundDiv10 tie c = c := by
  obtain ⟨hround, hrem⟩ | ⟨hround, hrem⟩ := roundDiv10_cases tie c <;> omega

/-! ### The obligations -/

/-- Settles O22, by the two answers of reading `b` as tenths. -/
theorem tempEncTChecksDomain : Obligations.TempEncTChecksDomain := by
  unfold Obligations.TempEncTChecksDomain
  refine fun a b s => ⟨fun h => ?_, fun h => ?_, setpoint_rejected_iff b⟩
  · exact delivers_of_completeRes (exec_tempEncT a b s) (tempEncTWord_ok h)
  · exact raises_of_completeRes (exec_tempEncT a b s) (tempEncTWord_error h)

/-- Settles O24: the result is the floor or the next integer (`roundDiv10_cases`), and at a tie the rule
chooses between the two. -/
theorem roundingIsNearestWithTieRule : Obligations.RoundingIsNearestWithTieRule := by
  unfold Obligations.RoundingIsNearestWithTieRule
  refine ⟨fun tie c => ⟨fun h => ?_, fun h => ⟨?_, ?_, ?_⟩⟩, rfl⟩
  · obtain ⟨hround, hrem⟩ | ⟨hround, hrem⟩ := roundDiv10_cases tie c <;> omega
  · obtain ⟨hround, hrem⟩ | ⟨hround, hrem⟩ := roundDiv10_cases tie c <;> omega
  · rintro rfl
    rw [roundDiv10_halfEven_of_tie h]
    split <;> omega
  · rintro rfl
    rw [roundDiv10_halfAway_of_tie h]
    split <;> omega

/-- Settles O27: TEMP_ENC_T delivers the setpoint itself, and TEMP_ENC_H ten times less with nothing
rounded away (`ten_mul_roundDiv10`). -/
theorem setpointRoundTrip : Obligations.SetpointRoundTrip := by
  unfold Obligations.SetpointRoundTrip
  refine fun a b s => ⟨fun h => ?_, fun h hwhole => ?_⟩
  · exact ⟨b, delivers_of_completeRes (exec_tempEncT a b s) (tempEncTWord_ok h), rfl⟩
  · obtain ⟨v, hv, hround, -⟩ := execTempEncHWith_delivered Config.roundTie b s h
    have htenths : 10 * s16 v = b.toInt :=
      (congrArg (10 * ·) hround).trans (ten_mul_roundDiv10 _ hwhole)
    refine ⟨v, hv, ?_⟩
    rw [tempValue, ← htenths]
    push_cast
    ring

end Sys2Proof.Machine

/-! PROOF. The single-bit and labelled decoders, the map decode and the encoders read back (R163 to
R175, R199, R200). -/

namespace Sys2Proof.Machine

open Sys2Proof.Claims

/-! ### Single bits (R165, R170) -/

theorem bitWord_getLsbD_zero (w : Word) :
    bitWord (w.getLsbD 0) = BitVec.ofNat 16 (w.toNat % 2) := by
  rw [bitWord_getLsbD, Nat.pow_zero, Nat.div_one]

theorem exec_decPower (a b : Word) (s : State) :
    exec (.decPower a b) s = completeRes (.ok (bitWord (a.getLsbD 0))) s := rfl

theorem exec_decReady (a b : Word) (s : State) :
    exec (.decReady a b) s = completeRes (.ok (bitWord (a.getLsbD 0))) s := rfl

/-! ### Labelled decoders (R164, R166 to R169) -/

/-- A labelled decoder delivers its code with the label's flag, whatever the code. -/
theorem delivers_of_completeLabelled {i : Instr} {s : State} {code : Word} {lbl : Bool}
    (hx : exec i s = completeLabelled code lbl s) : Delivers i s code lbl :=
  ⟨_, hx, rfl, rfl, rfl, statusReads_statusOk lbl s.status⟩

/-- The codes the labelled decoders deliver: their field of `a`. -/
theorem delivers_decFandir (a b : Word) (s : State) :
    Delivers (.decFandir a b) s (field a 8 3) (labelOf (.decFandir a b)) :=
  labelOf_decFandir a b ▸ delivers_of_completeLabelled rfl

theorem delivers_decFanvol (a b : Word) (s : State) :
    Delivers (.decFanvol a b) s (field a 12 3) (labelOf (.decFanvol a b)) :=
  labelOf_decFanvol a b ▸ delivers_of_completeLabelled rfl

theorem delivers_decMode (a b : Word) (s : State) :
    Delivers (.decMode a b) s (field a 0 4) (labelOf (.decMode a b)) :=
  labelOf_decMode a b ▸ delivers_of_completeLabelled rfl

theorem delivers_decOpstat (a b : Word) (s : State) :
    Delivers (.decOpstat a b) s (field a 8 4) (labelOf (.decOpstat a b)) :=
  labelOf_decOpstat a b ▸ delivers_of_completeLabelled rfl

/-! ### The whole map decode (R175) -/

theorem linkFlags_getElem? (w : Word) {k : Nat} (hk : k < 16) :
    (linkFlags w)[k]? = some (w.getLsbD k) := by
  simp [linkFlags, hk]

theorem linkMap_getElem? (w : Word) {k : Nat} (hk : k < 16) :
    (linkMap w)[k]? = some (.decLink w (BitVec.ofNat 16 (100 + k))) := by
  simp [linkMap, unitIds, hk]

theorem delivers_decLink_unit (a : Word) (s : State) {k : Nat} (hk : k < 16) :
    Delivers (.decLink a (BitVec.ofNat 16 (100 + k))) s (bitWord (a.getLsbD k)) false := by
  have hnat : (BitVec.ofNat 16 (100 + k)).toNat = 100 + k := by rw [BitVec.toNat_ofNat]; omega
  have hu : IsUid (BitVec.ofNat 16 (100 + k)) := by rw [IsUid, hnat]; omega
  have hlink := linkWord_ok a hu
  rw [hnat, Nat.add_sub_cancel_left, ← bitWord_getLsbD] at hlink
  exact delivers_of_completeRes (exec_decLink a _ s) hlink

/-! ### Filter-sign writes (R199, R200) -/

theorem exec_w1FilterSet (a b : Word) (s : State) :
    exec (.w1FilterSet a b) s = completeRes (.ok (filterSetWord a)) s := rfl

theorem exec_w1FilterClr (a b : Word) (s : State) :
    exec (.w1FilterClr a b) s = completeRes (.ok (filterClrWord a)) s := rfl

theorem filterSetWord_getLsbD (a : Word) {i : Nat} (hi : i < 16) :
    (filterSetWord a).getLsbD i = if 4 ≤ i ∧ i ≤ 7 then true else a.getLsbD i := by
  rw [filterSetWord, show (0x00F0 : Word) = fieldMask 4 4 by decide, or_fieldMask_getLsbD a 4 4 hi]
  exact if_congr (by omega) rfl rfl

/-- Clearing bits 7:4 is inserting 0 there. -/
theorem filterClrWord_getLsbD (a : Word) {i : Nat} (hi : i < 16) :
    (filterClrWord a).getLsbD i = if 4 ≤ i ∧ i ≤ 7 then false else a.getLsbD i := by
  have hins : filterClrWord a = ins a 4 4 0 := by
    rw [ins_of_lt a 4 (by decide), filterClrWord]
    exact (BitVec.or_zero).symm
  rw [hins, ins_getLsbD _ _ _ _ _ hi]
  exact if_congr (by omega) BitVec.getLsbD_zero rfl

theorem filterClrWord_filterSetWord (a : Word) :
    filterClrWord (filterSetWord a) = filterClrWord a := by
  apply BitVec.eq_of_getLsbD_eq
  intro i hi
  rw [filterClrWord_getLsbD _ hi, filterClrWord_getLsbD _ hi, filterSetWord_getLsbD a hi]
  split <;> rfl

/-! ### Reading back a code (R160) -/

/-- A code that fits its field reads back from where it was inserted. -/
theorem field_ins_of_lt (w : Word) (lo : Nat) {width : Nat} {v : Word} (hfit : lo + width ≤ 16)
    (h : v.toNat < 2 ^ width) : field (ins w lo width v) lo width = v := by
  rw [field_ins_same w v lo width hfit, field, BitVec.ushiftRight_zero, and_fieldMask_of_lt h]

theorem delivers_decPower_field (a b : Word) (s : State) :
    Delivers (.decPower a b) s (field a 0 1) false := by
  have hbit : bitWord (a.getLsbD 0) = field a 0 1 :=
    (bitWord_getLsbD a 0).trans (field_eq_ofNat a 0 (width := 1) (by decide)).symm
  exact delivers_of_completeRes (exec_decPower a b s) (congrArg Except.ok hbit)

/-- A decoder of a field delivers the code just inserted there. -/
theorem delivers_of_ins {i : Word → Instr} {lbl : Word → Bool} {s : State} {lo width : Nat}
    (hread : ∀ v, Delivers (i v) s (field v lo width) (lbl v)) (a : Word) {b : Word}
    (hfit : lo + width ≤ 16) (h : b.toNat < 2 ^ width) :
    Delivers (i (ins a lo width b)) s b (lbl (ins a lo width b)) := by
  have hins := hread (ins a lo width b)
  rwa [field_ins_of_lt a lo hfit h] at hins

/-- W0_COMPOUND leaves the power on (R197). -/
theorem delivers_decPower_compound (a b : Word) (s : State) :
    Delivers (.decPower (ins (a ||| fanEnable ||| 0x0001#16) 12 3 b) 0) s 1 false := by
  refine delivers_of_completeRes (exec_decPower _ 0 s) ?_
  rw [ins_getLsbD _ _ _ _ _ (by decide), if_neg (by decide),
    or_fanEnable_or_one_getLsbD a (by decide), if_pos (.inl rfl)]
  rfl

/-! ### The obligations -/

/-- Settles O28: both commands deliver bit 0 as a word. -/
theorem powerAndReadyDeliverBitZero : Obligations.PowerAndReadyDeliverBitZero := by
  unfold Obligations.PowerAndReadyDeliverBitZero
  intro a b s
  rw [← bitWord_getLsbD_zero]
  exact ⟨delivers_of_completeRes (exec_decPower a b s) rfl,
    delivers_of_completeRes (exec_decReady a b s) rfl⟩

/-- Settles O29: each labelled decoder delivers its field, which is the number stated. -/
theorem labelledDecodersDeliverCodeAndLabel : Obligations.LabelledDecodersDeliverCodeAndLabel := by
  unfold Obligations.LabelledDecodersDeliverCodeAndLabel
  intro a b s
  have hmode : field a 0 4 = BitVec.ofNat 16 (a.toNat % 16) := by
    rw [field_eq_ofNat a 0 (by decide), Nat.pow_zero, Nat.div_one]; rfl
  exact ⟨field_eq_ofNat a 8 (width := 3) (by decide) ▸ delivers_decFandir a b s,
    field_eq_ofNat a 12 (width := 3) (by decide) ▸ delivers_decFanvol a b s,
    hmode ▸ delivers_decMode a b s,
    field_eq_ofNat a 8 (width := 4) (by decide) ▸ delivers_decOpstat a b s⟩

/-- Settles O33: the k-th flag is bit k, which DEC_LINK delivers for uid 100 + k. -/
theorem linkMapDecodesSixteenUnits : Obligations.LinkMapDecodesSixteenUnits := by
  unfold Obligations.LinkMapDecodesSixteenUnits
  refine fun a s => ⟨by simp [linkFlags], by simp [linkMap, unitIds], fun k hk => ?_⟩
  exact ⟨_, linkFlags_getElem? a hk, linkMap_getElem? a hk, delivers_decLink_unit a s hk⟩

/-- Settles O38, by the bits of the two words; clearing the pattern clears the word it was made from. -/
theorem filterEncodersSetAndClear : Obligations.FilterEncodersSetAndClear := by
  unfold Obligations.FilterEncodersSetAndClear
  intro a b s
  refine ⟨filterSetWord a, filterClrWord a, delivers_of_completeRes (exec_w1FilterSet a b s) rfl,
    delivers_of_completeRes (exec_w1FilterClr a b s) rfl, fun i hi => filterSetWord_getLsbD a hi,
    fun i hi => filterClrWord_getLsbD a hi, ?_⟩
  exact delivers_of_completeRes (exec_w1FilterClr _ b s)
    (congrArg Except.ok (filterClrWord_filterSetWord a))

/-- Settles O40: each encoder inserts its code where the decoder reads it (`field_ins_of_lt`). -/
theorem decodersReadBackEncoders : Obligations.DecodersReadBackEncoders := by
  unfold Obligations.DecodersReadBackEncoders
  refine fun a b s => ⟨fun h => ?_, fun h => ?_, fun h => ?_⟩
  · have hb : b.toNat < 2 ^ 1 := by omega
    exact ⟨_, delivers_of_completeRes (exec_w0SetPower a b s) (setPowerWord_ok a hb),
      delivers_of_ins (fun v => delivers_decPower_field v 0 s) a (by decide) hb⟩
  · have hb : b.toNat < 2 ^ 3 := by omega
    refine ⟨⟨_, _, delivers_of_completeRes (exec_w0SetFandir a b s) (setFanDirWord_ok a hb),
        delivers_of_ins (fun v => delivers_decFandir v 0 s) _ (by decide) hb⟩,
      ⟨_, _, delivers_of_completeRes (exec_w0SetFanvol a b s) (setFanVolWord_ok a hb),
        delivers_of_ins (fun v => delivers_decFanvol v 0 s) _ (by decide) hb⟩,
      ⟨_, _, delivers_of_completeRes (exec_w0Compound a b s) (compoundWord_ok a hb),
        delivers_of_ins (fun v => delivers_decFanvol v 0 s) _ (by decide) hb,
        delivers_decPower_compound a b s⟩⟩
  · have hb : b.toNat < 2 ^ 4 := by omega
    exact ⟨⟨_, _, delivers_of_completeRes (exec_w1SetMode a b s) (setModeWord_ok a hb),
        delivers_of_ins (fun v => delivers_decMode v 0 s) a (by decide) hb⟩,
      ⟨_, _, delivers_of_completeRes (exec_w1SetOpstat a b s) (setOpStatWord_ok a hb),
        delivers_of_ins (fun v => delivers_decOpstat v 0 s) a (by decide) hb⟩⟩

end Sys2Proof.Machine

/-! PROOF. The commands that decode the fields of a status and of a capability block stand where the
layouts put the fields (R161, R162). -/

namespace Sys2Proof.Machine

open Sys2Proof.Claims

/-! ### Fields inside their word (assumption 6) -/

/-- A field put at its low bit modulo the places its width leaves. -/
theorem placed_mod (lo : Nat) {width : Nat} (h : width ≤ 16) : Placed lo width (lo % (17 - width)) := by
  have hlt : lo % (17 - width) < 17 - width := Nat.mod_lt _ (by omega)
  exact ⟨by omega, fun hfit => Nat.mod_eq_of_lt (by omega)⟩

/-- EXTRACT with a field's descriptor delivers the field (R174). -/
theorem delivers_extract_descriptor {p : FieldPos} (hwidth : 1 ≤ p.width) (hfit : p.lo + p.width ≤ 16)
    (w : Word) (s : State) :
    Delivers (.extract w p.descriptor) s (BitVec.ofNat 16 (w.toNat / 2 ^ p.lo % 2 ^ p.width)) false := by
  have hd : p.descriptor.toNat = 16 * (p.width - 1) + p.lo := by
    rw [FieldPos.descriptor, BitVec.toNat_ofNat]
    omega
  exact (extractDeliversField w p.descriptor s p.lo p.width (by omega) (by omega)).1 ⟨by omega, hfit⟩

theorem getElem?_eq_some_getD {l : List Word} {k : Nat} (h : k < l.length) :
    l[k]? = some (l.getD k 0) := by
  simp [h]

/-! ### Status fields (R161) -/

theorem statusPos_width (P : Params) (f : StatusField) :
    (statusPos P f).width = statusFieldWidth P f := by
  cases f <;> rfl

theorem statusFieldWidth_bounds (P : Params) (f : StatusField) :
    1 ≤ statusFieldWidth P f ∧ statusFieldWidth P f ≤ 16 := by
  cases f <;> simp only [statusFieldWidth] <;> omega

theorem statusPos_placed (P : Params) (f : StatusField) :
    Placed (P.statusLayout f).2.1.val (statusFieldWidth P f) (statusPos P f).lo := by
  rw [← statusPos_width]
  exact placed_mod _ (statusPos_width P f ▸ (statusFieldWidth_bounds P f).2)

theorem statusFieldCommand_of_ne (P : Params) {f : StatusField} (h : f ≠ .roomTemperature) (w : Word) :
    statusFieldCommand P f w = .extract w (statusPos P f).descriptor := by
  cases f with
  | roomTemperature => exact absurd rfl h
  | _ => rfl

theorem statusFieldCommand_mem (P : Params) (f : StatusField) (b : StatusBlock) :
    statusFieldCommand P f (b.words.getD (P.statusLayout f).1.val 0) ∈ statusBlockCommands P b := by
  refine List.mem_append_right _ (List.mem_map.mpr ⟨f, ?_, rfl⟩)
  cases f <;> decide

/-- TEMP_DEC delivers a whole word, and EXTRACT the bits at the field's place. -/
theorem delivers_statusFieldCommand (P : Params) (f : StatusField) (w : Word) (s : State) :
    Delivers (statusFieldCommand P f w) s
      (BitVec.ofNat 16 (w.toNat / 2 ^ (statusPos P f).lo % 2 ^ statusFieldWidth P f)) false := by
  obtain ⟨hlow, -⟩ := statusFieldWidth_bounds P f
  obtain ⟨hfit, -⟩ := statusPos_placed P f
  by_cases h : f = .roomTemperature
  · subst h
    have hlo : (statusPos P .roomTemperature).lo = 0 := Nat.le_zero.mp (Nat.le_of_add_le_add_right hfit)
    have hw : w.toNat % 2 ^ 16 = w.toNat := Nat.mod_eq_of_lt w.isLt
    rw [hlo, Nat.pow_zero, Nat.div_one, statusFieldWidth, hw, BitVec.ofNat_toNat, BitVec.setWidth_eq]
    exact tempDecDeliversTheWord w 0 s
  · rw [statusFieldCommand_of_ne P h, ← statusPos_width]
    rw [← statusPos_width] at hlow hfit
    exact delivers_extract_descriptor hlow hfit w s

/-! ### Capability fields (R162) -/

theorem capFieldWidth_eq (P : Params) (f : CapField) :
    capFieldWidth P f = if isLimitField f then none else some (capPos P f).width := by
  cases f <;> rfl

theorem capPos_lo_of_limit (P : Params) {f : CapField} (h : isLimitField f = true) :
    (capPos P f).lo = 8 * ((P.capLayout f).2.1.val / 8) := if_pos h

theorem capPos_lo_of_not_limit (P : Params) {f : CapField} (h : isLimitField f = false) :
    (capPos P f).lo = (P.capLayout f).2.1.val % (17 - (capPos P f).width) :=
  if_neg (ne_true_of_eq_false h)

theorem capPos_width_bounds (P : Params) (f : CapField) :
    1 ≤ (capPos P f).width ∧ (capPos P f).width ≤ 16 := by
  simp only [capPos]
  split
  · decide
  · split <;> omega

theorem capFieldCommand_mem (P : Params) (f : CapField) (b : CapBlock) :
    capFieldCommand P f (b.words.getD (P.capLayout f).1.val 0) ∈ capBlockCommands P b := by
  refine List.mem_map.mpr ⟨f, ?_, rfl⟩
  cases f <;> decide

/-- A limit is decoded from the low byte of its word where the layout's low bit lies in it, and else
from the high byte. -/
theorem capFieldCommand_of_limit (P : Params) {f : CapField} (h : isLimitField f = true) (w : Word) :
    capFieldCommand P f w =
      if (P.capLayout f).2.1.val < 8 then .decSbyteLo w 0 else .decSbyteHi w 0 := by
  rw [capFieldCommand, if_pos h, capPos_lo_of_limit P h]
  exact if_congr (by omega) rfl rfl

theorem delivers_limit (P : Params) {f : CapField} (h : isLimitField f = true) (w : Word) (s : State) :
    ∃ v, Delivers (capFieldCommand P f w) s v false ∧
      (let byte := if (P.capLayout f).2.1.val < 8 then w.toNat % 256 else w.toNat / 256
       v.toInt = if byte < 128 then (byte : Int) else (byte : Int) - 256) := by
  obtain ⟨hlow, hhigh⟩ := signedBytesAreSignExtended w 0 s
  rw [capFieldCommand_of_limit P h]
  by_cases hlo : (P.capLayout f).2.1.val < 8
  · simpa [hlo] using hlow
  · simpa [hlo] using hhigh

theorem delivers_capField (P : Params) {f : CapField} (h : isLimitField f = false) (w : Word)
    (s : State) :
    ∃ lo, Placed (P.capLayout f).2.1.val (capPos P f).width lo ∧
      Delivers (capFieldCommand P f w) s
        (BitVec.ofNat 16 (w.toNat / 2 ^ lo % 2 ^ (capPos P f).width)) false := by
  obtain ⟨hlow, hhigh⟩ := capPos_width_bounds P f
  have hplaced := placed_mod (P.capLayout f).2.1.val hhigh
  rw [← capPos_lo_of_not_limit P h] at hplaced
  refine ⟨_, hplaced, ?_⟩
  rw [capFieldCommand, if_neg (ne_true_of_eq_false h)]
  exact delivers_extract_descriptor hlow hplaced.1 w s

/-! ### The obligation -/

/-- Settles O34: each field's command takes the layout's word, and delivers its bits at the place the
layout gives (`placed_mod`), or for a limit the signed byte. -/
theorem fieldCommandsDeliverTheirField : Obligations.FieldCommandsDeliverTheirField := by
  unfold Obligations.FieldCommandsDeliverTheirField
  refine fun P s => ⟨fun f b => ?_, fun f b => ?_⟩
  · exact ⟨_, _, getElem?_eq_some_getD (P.statusLayout f).1.isLt, statusPos_placed P f,
      statusFieldCommand_mem P f b, by rintro rfl; rfl, delivers_statusFieldCommand P f _ s⟩
  · refine ⟨_, getElem?_eq_some_getD (P.capLayout f).1.isLt, capFieldCommand_mem P f b, ?_⟩
    rw [capFieldWidth_eq]
    cases h : isLimitField f with
    | true => exact delivers_limit P h _ s
    | false => exact delivers_capField P h _ s

end Sys2Proof.Machine

/-! PROOF. What a received frame is worth, and what the host carries of a transaction and of a sequence
under the retry policy (R126 to R129, R289, R290). -/

namespace Sys2Proof.Machine

open Sys2Proof.Claims

/-! ### The response of a transaction (R128) -/

theorem wordsOfBytes_wordsBytes (ws : List Word) : wordsOfBytes (wordsBytes ws) = ws := by
  induction ws with
  | nil => rfl
  | cons w ws ih =>
    change (hiByte w ++ loByte w : Word) :: wordsOfBytes (wordsBytes ws) = w :: ws
    rw [hiByte_append_loByte, ih]

/-- Every response is a frame with its own CRC. -/
theorem response_eq_withCrc (addr : Byte) (t : Transaction) (ws : List Word) :
    ∃ xs, 1 ≤ xs.length ∧ t.response addr ws = withCrc xs := by
  cases t <;> exact ⟨_, by simp, rfl⟩

theorem response_length (addr : Byte) (t : Transaction) (ws : List Word) :
    3 ≤ (t.response addr ws).length := by
  obtain ⟨xs, hlen, heq⟩ := response_eq_withCrc addr t ws
  rw [heq, withCrc_length]
  omega

theorem frameValid_response (addr : Byte) (t : Transaction) (ws : List Word) :
    frameValid (t.response addr ws) = true := by
  rw [frameValid_iff (response_length addr t ws)]
  obtain ⟨xs, -, heq⟩ := response_eq_withCrc addr t ws
  rw [heq, crcOf_withCrc]

theorem payload_response (addr : Byte) {t : Transaction} {ws : List Word}
    (h : ws.length = t.wordsRead) : t.payload (t.response addr ws) = ws := by
  cases t with
  | readInput start count =>
    rw [Transaction.payload, Transaction.response, withCrc_length]
    simp only [withCrc, List.cons_append, List.nil_append, List.drop_succ_cons, List.drop_zero,
      List.length_cons]
    rw [List.take_left' (by omega), wordsOfBytes_wordsBytes]
  | writeSingle reg value => exact (List.length_eq_zero_iff.mp h).symm
  | writeMultiple start vs => exact (List.length_eq_zero_iff.mp h).symm

/-! ### Answers (R129) -/

theorem receive_response (addr : Byte) {t : Transaction} {ws : List Word}
    (h : ws.length = t.wordsRead) : receive addr t (some (t.response addr ws)) = .ok ws := by
  have hlen : ¬ (t.response addr ws).length < 3 := Nat.not_lt.mpr (response_length addr t ws)
  simp only [receive, if_neg hlen, frameValid_response, payload_response addr h, h, and_self, if_true]

/-- An answer is good exactly when it is the response. -/
theorem receive_eq_ok_iff (addr : Byte) (t : Transaction) (ys : List Byte) (ws : List Word) :
    receive addr t (some ys) = .ok ws ↔ ws.length = t.wordsRead ∧ ys = t.response addr ws := by
  refine ⟨fun h => ?_, fun ⟨hlen, heq⟩ => heq ▸ receive_response addr hlen⟩
  obtain ⟨hok, -, hlen, heq⟩ | ⟨e, herr⟩ := receive_cases addr t ys
  · cases hok.symm.trans h
    exact ⟨hlen, heq⟩
  · cases herr.symm.trans h

/-- A CRC-valid frame that is not the response is malformed (assumption 14). -/
theorem receive_of_not_response {addr : Byte} {t : Transaction} {ys : List Byte} (hlen : 3 ≤ ys.length)
    (hvalid : frameValid ys = true)
    (h : ∀ ws, ws.length = t.wordsRead → ys ≠ t.response addr ws) :
    receive addr t (some ys) = .error .malformedFrame := by
  have hno : ¬ ((t.payload ys).length = t.wordsRead ∧ ys = t.response addr (t.payload ys)) :=
    fun ⟨hw, heq⟩ => h _ hw heq
  simp only [receive, if_neg (Nat.not_lt.mpr hlen), hvalid, if_true, if_neg hno]

theorem receive_length {addr : Byte} {t : Transaction} {answer : Answer} {ws : List Word}
    (h : receive addr t answer = .ok ws) : ws.length = t.wordsRead := by
  cases answer with
  | none => cases h
  | some ys => exact ((receive_eq_ok_iff addr t ys ws).mp h).1

theorem error_of_not_good {P : Params} {t : Transaction} {answer : Answer} (h : ¬ Good P t answer) :
    ∃ e, receive P.slaveAddr t answer = .error e := by
  cases hr : receive P.slaveAddr t answer with
  | ok ws => exact absurd ⟨ws, hr⟩ h
  | error e => exact ⟨e, rfl⟩

/-! ### Attempts (R290) -/

theorem tail_getD {α : Type} (l : List α) (n : Nat) (d : α) : l.tail.getD n d = l.getD (n + 1) d := by
  cases l <;> rfl

/-- The sends before the last one, each with the delay after it. -/
def failedAttempts (t : Transaction) (k : Nat) : List BusStep :=
  (List.replicate k [BusStep.send t, .wait retryDelay]).flatten

theorem failedAttempts_succ (t : Transaction) (k : Nat) :
    failedAttempts t (k + 1) = .send t :: .wait retryDelay :: failedAttempts t k := by
  simp [failedAttempts, List.replicate_succ]

/-- The first good answer among the attempts left ends them with its words. -/
theorem attempt_of_first_good {P : Params} {t : Transaction} {ws : List Word} {k : Nat} :
    ∀ {n : Nat} {answers : List Answer}, k < n →
      receive P.slaveAddr t (answers.getD k none) = .ok ws →
      (∀ j, j < k → ¬ Good P t (answers.getD j none)) →
      attempt P t n answers = (failedAttempts t k ++ [.send t], .ok ws) := by
  induction k with
  | zero =>
    intro n answers hn hok _
    obtain ⟨n, rfl⟩ := Nat.exists_eq_succ_of_ne_zero (Nat.ne_of_gt hn)
    exact attempt_ok P t n answers ws (List.headD_eq_getD ▸ hok)
  | succ k ih =>
    intro n answers hn hok hbad
    obtain ⟨n, rfl⟩ : ∃ m, n = m + 2 := ⟨n - 2, by omega⟩
    obtain ⟨e, he⟩ := error_of_not_good (hbad 0 (by omega))
    have hlater : attempt P t (n + 1) answers.tail = (failedAttempts t k ++ [.send t], .ok ws) :=
      ih (by omega) (by rwa [tail_getD]) fun j hj => by
        rw [tail_getD]; exact hbad (j + 1) (by omega)
    rw [attempt_again P t n answers e (List.headD_eq_getD ▸ he), hlater, failedAttempts_succ]
    rfl

/-- With no good answer every attempt left is made, and the last failure ends them. -/
theorem attempt_of_none_good {P : Params} {t : Transaction} {e : TransportFailure} {n : Nat} :
    ∀ {answers : List Answer}, (∀ k, k < n + 1 → ¬ Good P t (answers.getD k none)) →
      receive P.slaveAddr t (answers.getD n none) = .error e →
      attempt P t (n + 1) answers = (failedAttempts t n ++ [.send t], .error e) := by
  induction n with
  | zero =>
    intro answers _ he
    exact attempt_last P t answers e (List.headD_eq_getD ▸ he)
  | succ n ih =>
    intro answers hbad he
    obtain ⟨e₀, he₀⟩ := error_of_not_good (hbad 0 (by omega))
    have hlater : attempt P t (n + 1) answers.tail = (failedAttempts t n ++ [.send t], .error e) :=
      ih (fun k hk => by rw [tail_getD]; exact hbad (k + 1) (by omega)) (by rwa [tail_getD])
    rw [attempt_again P t n answers e₀ (List.headD_eq_getD ▸ he₀), hlater, failedAttempts_succ]
    rfl

/-- Three failed attempts carry three sends with two delays between them. -/
theorem attempt_of_not_answered {P : Params} {t : Transaction} {answers : List Answer}
    {e : TransportFailure} (hbad : ∀ k, k < 3 → ¬ Good P t (answers.getD k none))
    (he : receive P.slaveAddr t (answers.getD 2 none) = .error e) :
    attempt P t retryBudget answers =
      ([.send t, .wait 1500, .send t, .wait 1500, .send t], .error e) :=
  attempt_of_none_good hbad he

/-- A transaction answered within its attempts is answered by its first good answer. -/
theorem attempt_of_answered {P : Params} {t : Transaction} {answers : List Answer}
    (h : Answered P t answers) : ∃ ws, (attempt P t retryBudget answers).2 = .ok ws := by
  classical
  obtain ⟨hlt, ws, hok⟩ := Nat.find_spec h
  have hfirst : ∀ j, j < Nat.find h → ¬ Good P t (answers.getD j none) :=
    fun j hj hgood => Nat.find_min h hj ⟨by omega, hgood⟩
  exact ⟨ws, by rw [retryBudget, attempt_of_first_good hlt hok hfirst]⟩

theorem attempt_length {P : Params} {t : Transaction} {ws : List Word} {n : Nat} :
    ∀ {answers : List Answer}, (attempt P t n answers).2 = .ok ws → ws.length = t.wordsRead := by
  induction n with
  | zero => intro answers h; cases h
  | succ n ih =>
    intro answers h
    cases hr : receive P.slaveAddr t (answers.headD none) with
    | ok ws' =>
      rw [attempt_ok P t n answers ws' hr] at h
      cases h
      exact receive_length hr
    | error e =>
      cases n with
      | zero => rw [attempt_last P t answers e hr] at h; cases h
      | succ n => rw [attempt_again P t n answers e hr] at h; exact ih h

/-! ### Transactions and sequences (R289) -/

theorem transact_of_answered {P : Params} {t : Transaction} {answers : List Answer}
    (ha : t.admitted = true) (h : Answered P t answers) :
    ∃ ws, transact P t answers = ((attempt P t retryBudget answers).1, .ok ws) := by
  obtain ⟨ws, hok⟩ := attempt_of_answered h
  obtain ⟨hno, -⟩ | ⟨-, ws', -, hx⟩ | ⟨-, e, herr, -⟩ := transact_cases P t answers
  · cases ha.symm.trans hno
  · exact ⟨ws', hx⟩
  · cases hok.symm.trans herr

theorem transact_of_not_answered {P : Params} {t : Transaction} {answers : List Answer}
    (ha : t.admitted = true) (h : ¬ Answered P t answers) :
    ∃ e, receive P.slaveAddr t (answers.getD 2 none) = .error e ∧
      transact P t answers = ([.send t, .wait 1500, .send t, .wait 1500, .send t],
        .error (.communicationError e)) := by
  have hbad : ∀ k, k < 3 → ¬ Good P t (answers.getD k none) := fun k hk hgood => h ⟨k, hk, hgood⟩
  obtain ⟨e, he⟩ := error_of_not_good (hbad 2 (by omega))
  refine ⟨e, he, ?_⟩
  rw [transact, if_pos ha, attempt_of_not_answered hbad he]
  rfl

/-- What a transaction reads has the number of words it asks for. -/
theorem transact_length {P : Params} {t : Transaction} {answers : List Answer} {ws : List Word}
    (h : (transact P t answers).2 = .ok ws) : ws.length = t.wordsRead := by
  obtain ⟨-, hx⟩ | ⟨-, ws', hok, hx⟩ | ⟨-, e, -, hx⟩ := transact_cases P t answers
  · rw [hx] at h; cases h
  · rw [hx] at h
    cases h
    exact attempt_length hok
  · rw [hx] at h; cases h

/-- A sequence on named addresses stops at a step: all before it are answered and it is not. -/
def StopsAt (P : Params) (plan : List BusStep) (answers : List (List Answer)) : Prop :=
  ∃ (before after : List BusStep) (t : Transaction) (e : TransportFailure),
    plan = before ++ .send t :: after ∧ AllAnswered P (sends before) answers ∧
    ¬ Answered P t (answers.getD (sends before).length []) ∧
    receive P.slaveAddr t ((answers.getD (sends before).length []).getD 2 none) = .error e ∧
    runPlan P plan answers =
      (carried P before answers ++ [.send t, .wait 1500, .send t, .wait 1500, .send t],
        .error (.communicationError e))

theorem StopsAt.wait {P : Params} {plan : List BusStep} {answers : List (List Answer)}
    (h : StopsAt P plan answers) (ms : Nat) : StopsAt P (.wait ms :: plan) answers := by
  obtain ⟨before, after, t, e, rfl, hall, hno, he, hrun⟩ := h
  exact ⟨.wait ms :: before, after, t, e, rfl, hall, hno, he, by rw [runPlan_wait, hrun]; rfl⟩

theorem StopsAt.send {P : Params} {plan : List BusStep} {answers : List (List Answer)}
    {t : Transaction} (h : StopsAt P plan answers.tail) (ha : t.admitted = true)
    (hgood : Answered P t (answers.headD [])) : StopsAt P (.send t :: plan) answers := by
  obtain ⟨before, after, t', e, rfl, hall, hno, he, hrun⟩ := h
  rw [tail_getD] at hno he
  obtain ⟨ws, hx⟩ := transact_of_answered ha hgood
  refine ⟨.send t :: before, after, t', e, rfl, ⟨hgood, hall⟩, hno, he, ?_⟩
  rw [runPlan_send_ok P t _ answers ws (congrArg Prod.snd hx), hx, hrun]
  exact congrArg (·, _) (List.append_assoc _ _ _).symm

theorem stopsAt_head {P : Params} {t : Transaction} (rest : List BusStep)
    {answers : List (List Answer)} (ha : t.admitted = true)
    (hbad : ¬ Answered P t (answers.headD [])) : StopsAt P (.send t :: rest) answers := by
  obtain ⟨e, he, hx⟩ := transact_of_not_answered ha hbad
  have hrun := runPlan_send_error P t rest answers _ (congrArg Prod.snd hx)
  rw [hx] at hrun
  rw [List.headD_eq_getD] at hbad he
  exact ⟨[], rest, t, e, rfl, trivial, hbad, he, hrun⟩

/-- A sequence on named addresses runs to its end or stops at its first unanswered transaction. -/
theorem runPlan_cases (P : Params) (plan : List BusStep) :
    ∀ answers : List (List Answer), (∀ t ∈ sends plan, t.admitted = true) →
      (AllAnswered P (sends plan) answers ∧ runPlan P plan answers = (carried P plan answers, .ok ())) ∨
      StopsAt P plan answers := by
  induction plan with
  | nil => exact fun _ _ => .inl ⟨trivial, rfl⟩
  | cons step rest ih =>
    intro answers hadm
    cases step with
    | wait ms =>
      obtain ⟨hall, hrun⟩ | hstop := ih answers hadm
      · exact .inl ⟨hall, by rw [runPlan_wait, hrun]; rfl⟩
      · exact .inr (hstop.wait ms)
    | send t =>
      obtain ⟨ha, hrest⟩ := List.forall_mem_cons.mp hadm
      by_cases hgood : Answered P t (answers.headD [])
      · obtain ⟨hall, hrun⟩ | hstop := ih answers.tail hrest
        · obtain ⟨ws, hx⟩ := transact_of_answered ha hgood
          refine .inl ⟨⟨hgood, hall⟩, ?_⟩
          rw [runPlan_send_ok P t rest answers ws (congrArg Prod.snd hx), hx, hrun]
          rfl
        · exact .inr (hstop.send ha hgood)
      · exact .inr (stopsAt_head rest ha hgood)

/-! ### The obligations -/

/-- Settles O56: the response is good and nothing else (`receive_eq_ok_iff`); what CRC_CHECK leaves in
RES is the frame's validity, on which the failures of longer frames split. -/
theorem onlyTheResponseIsGood : Obligations.OnlyTheResponseIsGood := by
  unfold Obligations.OnlyTheResponseIsGood
  refine fun addr t => ⟨receive_eq_ok_iff addr t, receive_none addr t, receive_under3 addr t,
    fun s u ys hlen hrun => ?_⟩
  obtain ⟨u', hrun', hres⟩ := runCommands_crcCheckFrame hlen s
  cases hrun'.symm.trans hrun
  cases hvalid : frameValid ys with
  | true =>
    rw [hvalid] at hres
    exact ⟨fun h0 => absurd (hres.symm.trans h0) (by decide),
      fun _ => receive_of_not_response hlen hvalid⟩
  | false =>
    rw [hvalid] at hres
    exact ⟨fun _ => receive_badCrc addr t ys hlen hvalid,
      fun h1 => absurd (hres.symm.trans h1) (by decide)⟩

/-- Settles O57: the first good answer ends the attempts, and without one the third failure does. -/
theorem retryStopsAfterThreeAttempts : Obligations.RetryStopsAfterThreeAttempts := by
  unfold Obligations.RetryStopsAfterThreeAttempts
  exact fun P t answers => ⟨fun k ws hk hok hfirst => attempt_of_first_good hk hok hfirst,
    fun e hbad he => attempt_of_not_answered hbad he⟩

/-- Settles O58, by `runPlan_cases`. -/
theorem sequenceStopsAtFirstFailure : Obligations.SequenceStopsAtFirstFailure := by
  unfold Obligations.SequenceStopsAtFirstFailure
  exact runPlan_cases

end Sys2Proof.Machine

/-! PROOF. The register blocks the host reads, the named addresses, and the reads on them (R42 to R44,
R176, R248). -/

namespace Sys2Proof.Machine

open Sys2Proof.Claims

/-! ### Status and capability blocks (R176) -/

theorem statusBlockOf_ok {ws : List Word} (h : ws.length = 6) :
    ∃ b, statusBlockOf ws = .ok b ∧ b.words = ws :=
  match ws, h with
  | [w0, w1, w2, w3, w4, w5], _ => ⟨⟨w0, w1, w2, w3, w4, w5⟩, rfl, rfl⟩

theorem capBlockOf_ok {ws : List Word} (h : ws.length = 3) :
    ∃ b, capBlockOf ws = .ok b ∧ b.words = ws :=
  match ws, h with
  | [w0, w1, w2], _ => ⟨⟨w0, w1, w2⟩, rfl, rfl⟩

theorem statusBlockOf_error {ws : List Word} (h : ws.length ≠ 6) :
    statusBlockOf ws = .error .preconditionViolation := by
  unfold statusBlockOf
  split
  · exact absurd rfl h
  · rfl

theorem capBlockOf_error {ws : List Word} (h : ws.length ≠ 3) :
    capBlockOf ws = .error .preconditionViolation := by
  unfold capBlockOf
  split
  · exact absurd rfl h
  · rfl

/-! ### The bulk status read (R44) -/

theorem bulkSlots_words_append (n : Nat) (b : StatusBlock) (rest : List Word) :
    bulkSlots (n + 1) (b.words ++ rest) = b :: bulkSlots n rest := rfl

/-- A slot that is not whole is absent, with every later one. -/
theorem bulkSlots_of_length_lt (n : Nat) {ws : List Word} (h : ws.length < 6) : bulkSlots n ws = [] := by
  unfold bulkSlots
  split
  · rfl
  · simp at h; omega
  · rfl

/-- Six words or more begin with a whole slot. -/
theorem exists_slot {ws : List Word} (h : 6 ≤ ws.length) :
    ∃ (b : StatusBlock) (rest : List Word), ws = b.words ++ rest := by
  obtain ⟨b, -, hb⟩ := statusBlockOf_ok (ws := ws.take 6) (by rw [List.length_take]; omega)
  exact ⟨b, ws.drop 6, by rw [hb, List.take_append_drop]⟩

theorem bulkSlots_length (n : Nat) (ws : List Word) :
    (bulkSlots n ws).length = min n (ws.length / 6) := by
  induction n generalizing ws with
  | zero => exact (Nat.zero_min _).symm
  | succ n ih =>
    obtain hshort | hlong := Nat.lt_or_ge ws.length 6
    · rw [bulkSlots_of_length_lt _ hshort, Nat.div_eq_of_lt hshort]; rfl
    · obtain ⟨b, rest, rfl⟩ := exists_slot hlong
      have hlen : (b.words ++ rest).length = rest.length + 6 := by
        rw [List.length_append, Nat.add_comm]; rfl
      rw [bulkSlots_words_append, List.length_cons, ih, hlen]
      omega

/-- Slot `k` is words 6k to 6k+5. -/
theorem bulkSlots_words {n k : Nat} {ws : List Word} {b : StatusBlock}
    (h : (bulkSlots n ws)[k]? = some b) : b.words = (ws.drop (6 * k)).take 6 := by
  induction n generalizing ws k with
  | zero => cases h
  | succ n ih =>
    obtain hshort | hlong := Nat.lt_or_ge ws.length 6
    · rw [bulkSlots_of_length_lt _ hshort] at h; cases h
    · obtain ⟨b₀, rest, rfl⟩ := exists_slot hlong
      rw [bulkSlots_words_append] at h
      cases k with
      | zero => cases h; rfl
      | succ k => exact ih (ws := rest) h

theorem unitIds_getElem?_toNat {k : Nat} {uid : Word} (h : unitIds[k]? = some uid) :
    uid.toNat = 100 + k := by
  obtain ⟨hk, rfl⟩ : k < 16 ∧ BitVec.ofNat 16 (100 + k) = uid := by
    simpa [unitIds, List.getElem?_range, List.getElem?_eq_some_iff] using h
  rw [BitVec.toNat_ofNat]
  omega

/-! ### The named addresses (R42) -/

theorem mem_mapItems (m : MapItem) : m ∈ mapItems := by
  have hunit : ∀ unit : Fin 16, unit ∈ allUnits := by decide
  cases m with
  | capability unit => simp [mapItems, hunit]
  | status unit => simp [mapItems, hunit]
  | control k unit => fin_cases k <;> simp [mapItems, hunit]
  | _ => simp [mapItems]

/-- An address is named exactly when an item of the map covers it. -/
theorem namedAddress_iff (sp : Space) (addr : Nat) :
    namedAddress sp addr = true ↔
      ∃ m : MapItem, m.space = sp ∧ m.wire ≤ addr ∧ addr < m.wire + m.words := by
  simp [namedAddress, MapItem.covers, mem_mapItems]

theorem namedAddress_input_iff (addr : Nat) :
    namedAddress .input addr = true ↔ addr = 0 ∨ addr = 1 ∨ addr = 5 ∨
      (1000 ≤ addr ∧ addr ≤ 1047) ∨ (2000 ≤ addr ∧ addr ≤ 2095) := by
  rw [namedAddress_iff]
  constructor
  · rintro ⟨m, hsp, hlow, hhigh⟩
    simp only [MapItem.wire, MapItem.phys, MapItem.words, hsp, Space.base] at hlow hhigh
    cases m <;> cases hsp <;> simp only at hlow hhigh <;> omega
  · rintro (h | h | h | h | h)
    · exact ⟨.adapterStatus, rfl, Nat.le_of_eq h.symm, Nat.lt_succ_of_le (Nat.le_of_eq h)⟩
    · exact ⟨.connectionMap, rfl, Nat.le_of_eq h.symm, Nat.lt_succ_of_le (Nat.le_of_eq h)⟩
    · exact ⟨.communicationMap, rfl, Nat.le_of_eq h.symm, Nat.lt_succ_of_le (Nat.le_of_eq h)⟩
    · refine ⟨.capability ⟨(addr - 1000) / 3, by omega⟩, rfl, ?_⟩
      simp only [wire_capability, MapItem.words]
      omega
    · exact ⟨.bulkStatus, rfl, h.1, Nat.lt_succ_of_le h.2⟩

theorem namedAddress_holding_iff (addr : Nat) :
    namedAddress .holding addr = true ↔ addr = 0 ∨ (2000 ≤ addr ∧ addr ≤ 2047) := by
  rw [namedAddress_iff]
  constructor
  · rintro ⟨m, hsp, hlow, hhigh⟩
    simp only [MapItem.wire, MapItem.phys, MapItem.words, hsp, Space.base] at hlow hhigh
    cases m <;> cases hsp <;> simp only at hlow hhigh <;> omega
  · rintro (h | h)
    · exact ⟨.initialSettings, rfl, Nat.le_of_eq h.symm, Nat.lt_succ_of_le (Nat.le_of_eq h)⟩
    · refine ⟨.control ⟨(addr - 2000) % 3, by omega⟩ ⟨(addr - 2000) / 3, by omega⟩, rfl, ?_⟩
      simp only [wire_control, MapItem.words]
      omega

/-! ### Transactions on named addresses (I17) -/

theorem admitted_iff (t : Transaction) :
    t.admitted = true ↔
      t.addresses ≠ [] ∧ ∀ addr ∈ t.addresses, namedAddress t.space addr = true := by
  simp [Transaction.admitted]

/-- A read of a whole item stays on the item. -/
theorem read_admitted {m : MapItem} (h : m.space = .input) : m.read.admitted = true := by
  have hwire : m.wire < 2 ^ 16 := by
    cases m <;> simp only [MapItem.wire, MapItem.phys, MapItem.space, Space.base] <;> omega
  have hwords : 0 < m.words ∧ m.words < 2 ^ 16 := by
    cases m <;> simp only [MapItem.words] <;> omega
  have haddr : m.read.addresses = List.range' m.wire m.words := by
    rw [MapItem.read, Transaction.addresses, BitVec.toNat_ofNat, BitVec.toNat_ofNat,
      Nat.mod_eq_of_lt hwire, Nat.mod_eq_of_lt hwords.2]
  rw [admitted_iff, haddr]
  refine ⟨mt List.range'_eq_nil_iff.mp hwords.1.ne', fun addr hmem => ?_⟩
  exact (namedAddress_iff .input addr).mpr ⟨m, h, by simpa using hmem⟩

theorem writeSingle_admitted {reg : Word} (h : 2000 ≤ reg.toNat ∧ reg.toNat ≤ 2047) (value : Word) :
    (Transaction.writeSingle reg value).admitted = true := by
  rw [admitted_iff]
  refine ⟨List.cons_ne_nil _ _, fun addr hmem => (namedAddress_holding_iff addr).mpr (.inr ?_)⟩
  rwa [List.mem_singleton.mp hmem]

theorem writeMultiple_admitted {reg : Word} {ws : List Word} (hne : ws ≠ [])
    (h : 2000 ≤ reg.toNat ∧ reg.toNat + ws.length ≤ 2048) :
    (Transaction.writeMultiple reg ws).admitted = true := by
  rw [admitted_iff]
  refine ⟨mt List.range'_eq_nil_iff.mp (mt List.length_eq_zero_iff.mp hne), fun addr hmem => ?_⟩
  obtain ⟨hlow, hhigh⟩ := List.mem_range'_1.mp hmem
  exact (namedAddress_holding_iff addr).mpr (.inr (by omega))

/-- A transaction on an address with no name is not sent. -/
theorem transact_unnamed (P : Params) {t : Transaction} (answers : List Answer)
    (h : ∃ addr ∈ t.addresses, namedAddress t.space addr = false) :
    transact P t answers = ([], .error .unnamedAddress) := by
  obtain ⟨addr, hmem, hno⟩ := h
  refine if_neg fun ha => ?_
  cases hno.symm.trans (((admitted_iff t).mp ha).2 addr hmem)

/-! ### The reads (R42 to R44) -/

theorem exists_of_map_eq_ok {ε α β : Type} {r : Except ε α} {f : α → β} {b : β}
    (h : r.map f = .ok b) : ∃ a, r = .ok a ∧ f a = b := by
  cases r with
  | error e => cases h
  | ok a => exact ⟨a, rfl, Except.ok.inj h⟩

/-- Every read is that of one input item of the map. -/
theorem transaction_eq_read {r : HostRead} {t : Transaction} (h : r.transaction = .ok t) :
    ∃ m : MapItem, m.space = .input ∧ m.read = t := by
  cases r with
  | unitStatus uid =>
    obtain ⟨unit, -, ht⟩ := exists_of_map_eq_ok h
    exact ⟨.status unit, rfl, ht⟩
  | unitCapability uid =>
    obtain ⟨unit, -, ht⟩ := exists_of_map_eq_ok h
    exact ⟨.capability unit, rfl, ht⟩
  | _ => exact ⟨_, rfl, Except.ok.inj h⟩

/-- The wire address of a unit's status block, which ADDR_STATUS computes (R140). -/
def statusAddr (uid : Word) : Word := BitVec.ofNat 16 (2000 + 6 * (uid.toNat - 100))

/-- The wire address of a unit's capability block, which ADDR_CAP computes (R141). -/
def capAddr (uid : Word) : Word := BitVec.ofNat 16 (1000 + 3 * (uid.toNat - 100))

theorem read_status_uidOf (unit : Fin 16) :
    (MapItem.status unit).read = .readInput (statusAddr (uidOf unit)) 6 := by
  rw [MapItem.read, wire_status, statusAddr, uidOf_toNat, Nat.add_sub_cancel_left]; rfl

theorem read_capability_uidOf (unit : Fin 16) :
    (MapItem.capability unit).read = .readInput (capAddr (uidOf unit)) 3 := by
  rw [MapItem.read, wire_capability, capAddr, uidOf_toNat, Nat.add_sub_cancel_left]; rfl

theorem runRead_unitStatus (P : Params) {uid : Word} (h : IsUid uid) (answers : List Answer) :
    runRead P (.unitStatus uid) answers = transact P (.readInput (statusAddr uid) 6) answers := by
  obtain ⟨unit, rfl⟩ := exists_unit_of_isUid h
  rw [runRead, HostRead.transaction, unitOf_uidOf, ← read_status_uidOf]; rfl

theorem runRead_unitCapability (P : Params) {uid : Word} (h : IsUid uid) (answers : List Answer) :
    runRead P (.unitCapability uid) answers = transact P (.readInput (capAddr uid) 3) answers := by
  obtain ⟨unit, rfl⟩ := exists_unit_of_isUid h
  rw [runRead, HostRead.transaction, unitOf_uidOf, ← read_capability_uidOf]; rfl

theorem statusAddr_toNat {uid : Word} (h : IsUid uid) :
    (statusAddr uid).toNat = 2000 + 6 * (uid.toNat - 100) := by
  have hhigh := h.2
  rw [statusAddr, BitVec.toNat_ofNat]
  omega

theorem capAddr_toNat {uid : Word} (h : IsUid uid) :
    (capAddr uid).toNat = 1000 + 3 * (uid.toNat - 100) := by
  have hhigh := h.2
  rw [capAddr, BitVec.toNat_ofNat]
  omega

/-! ### The obligations -/

/-- Settles O59, by the slots one after another (`bulkSlots_length`, `bulkSlots_words`), zipped with the
16 uids. -/
theorem bulkReadSplitsIntoSlots : Obligations.BulkReadSplitsIntoSlots := by
  unfold Obligations.BulkReadSplitsIntoSlots
  intro ws
  have hlen := bulkSlots_length 16 ws
  refine ⟨hlen, ?_, fun k uid b h => ?_⟩
  · have hids : unitIds.length = 16 := rfl
    rw [bulkUnits, List.length_zip, hids, hlen]
    omega
  · obtain ⟨huid, hslot⟩ := List.getElem?_zip_eq_some.mp h
    exact ⟨unitIds_getElem?_toNat huid, hslot, bulkSlots_words hslot⟩

/-- Settles O60, by the two answers of each reading. -/
theorem blocksOfWrongLengthAreRejected : Obligations.BlocksOfWrongLengthAreRejected := by
  unfold Obligations.BlocksOfWrongLengthAreRejected
  refine fun ws => ⟨⟨fun herr hlen => ?_, statusBlockOf_error⟩, statusBlockOf_ok,
    ⟨fun herr hlen => ?_, capBlockOf_error⟩, capBlockOf_ok⟩
  · obtain ⟨b, hok, -⟩ := statusBlockOf_ok hlen
    cases hok.symm.trans herr
  · obtain ⟨b, hok, -⟩ := capBlockOf_ok hlen
    cases hok.symm.trans herr

/-- Settles O55: a bad uid names no unit, and a good one its unit's items. -/
theorem readsUseTheAddressMap : Obligations.ReadsUseTheAddressMap := by
  unfold Obligations.ReadsUseTheAddressMap
  refine fun P answers => ⟨fun uid h => ⟨?_, ?_⟩, fun uid h => ?_, rfl, rfl, rfl, rfl⟩
  · rw [runRead, HostRead.transaction, unitOf_error h]; rfl
  · rw [runRead, HostRead.transaction, unitOf_error h]; rfl
  · exact ⟨statusAddr uid, capAddr uid, statusAddr_toNat h, capAddr_toNat h,
      runRead_unitStatus P h answers, runRead_unitCapability P h answers⟩

end Sys2Proof.Machine

/-! PROOF. The plans of the host's operations (R202, R283 to R291): the sequence each sends, the errors
that stop it before anything is sent, the addresses it stays on, and how it is run. -/

namespace Sys2Proof.Machine

open Sys2Proof.Claims

/-! ### The addresses of a plan -/

/-- The wire address of a unit's control word, which ADDR_CTRL computes (R142). -/
def ctrlAddr (k uid : Word) : Word := BitVec.ofNat 16 (1999 + k.toNat + 3 * (uid.toNat - 100))

theorem addrStatusWord_eq_statusAddr {uid : Word} (h : IsUid uid) :
    addrStatusWord uid = .ok (statusAddr uid) := addrStatusWord_ok h

theorem addrCtrlWord_eq_ctrlAddr {k uid : Word} (h : IsUid uid) (hk : 1 ≤ k.toNat ∧ k.toNat ≤ 3) :
    addrCtrlWord k uid = .ok (ctrlAddr k uid) := addrCtrlWord_ok h hk

theorem unitAddresses {uid k : Word} {j : Nat} (h : IsUid uid) (hj : j < 3) (hk : k.toNat = j + 1) :
    UnitAddresses uid j (statusAddr uid) (ctrlAddr k uid) := by
  have hhigh := h.2
  refine ⟨statusAddr_toNat h, ?_⟩
  rw [ctrlAddr, BitVec.toNat_ofNat]
  omega

/-! ### The read before a plan's writes (R283, R288) -/

theorem withStatusRead_of_isUid {uid : Word} (h : IsUid uid)
    (writes : Except BlockError (List BusStep)) :
    withStatusRead uid writes = writes.map fun steps => statusRead (statusAddr uid) :: steps := by
  rw [withStatusRead, addrStatusWord_eq_statusAddr h]
  cases writes <;> rfl

theorem withStatusRead_of_not_isUid {uid : Word} (h : ¬ IsUid uid)
    (writes : Except BlockError (List BusStep)) : withStatusRead uid writes = .error .invalidUnit := by
  rw [withStatusRead, addrStatusWord_error h]; rfl

theorem plan_of_isUid (P : Params) {uid : Word} (h : IsUid uid) (status : StatusBlock) (op : HostOp) :
    op.plan P uid status =
      (op.writes P uid status).map fun steps => statusRead (statusAddr uid) :: steps :=
  withStatusRead_of_isUid h _

theorem plan_of_not_isUid (P : Params) {uid : Word} (h : ¬ IsUid uid) (status : StatusBlock)
    (op : HostOp) : op.plan P uid status = .error .invalidUnit :=
  withStatusRead_of_not_isUid h _

/-- A plan begins with the status read and goes on with the operation's writes. -/
theorem plan_eq_ok_iff {P : Params} {uid : Word} {status : StatusBlock} {op : HostOp}
    {plan : List BusStep} :
    op.plan P uid status = .ok plan ↔ IsUid uid ∧ ∃ steps, op.writes P uid status = .ok steps ∧
      plan = statusRead (statusAddr uid) :: steps := by
  by_cases h : IsUid uid
  · rw [plan_of_isUid P h]
    cases op.writes P uid status <;> simp [Except.map, h, eq_comm]
  · simp [plan_of_not_isUid P h, h]

/-! ### Single-field changes (R283, R284) -/

theorem setFieldWrites_ok (P : Params) {uid k : Word} {current : StatusBlock → Word}
    {mutate : Word → Except BlockError Word} {status : StatusBlock} {z v : Word} (hu : IsUid uid)
    (hk : 1 ≤ k.toNat ∧ k.toNat ≤ 3) (hz : mutate 0 = .ok z) (hv : mutate (current status) = .ok v) :
    setFieldWrites P uid k current mutate status =
      .ok (primeSteps P (.writeSingle (ctrlAddr k uid) (current status)) ++
        [.send (.writeSingle (ctrlAddr k uid) v)]) := by
  rw [setFieldWrites, addrCtrlWord_eq_ctrlAddr hu hk, hz, hv]; rfl

theorem setFieldWrites_error (P : Params) {uid k : Word} (current : StatusBlock → Word)
    {mutate : Word → Except BlockError Word} (status : StatusBlock) {e : BlockError} (hu : IsUid uid)
    (hk : 1 ≤ k.toNat ∧ k.toNat ≤ 3) (hz : mutate 0 = .error e) :
    setFieldWrites P uid k current mutate status = .error e := by
  rw [setFieldWrites, addrCtrlWord_eq_ctrlAddr hu hk, hz]; rfl

theorem setFieldPlan_ok {P : Params} (hP : P.primeRequired = true) {uid k : Word}
    {current : StatusBlock → Word} {mutate : Word → Except BlockError Word} {status : StatusBlock}
    {z v : Word} (hu : IsUid uid) (hk : 1 ≤ k.toNat ∧ k.toNat ≤ 3) (hz : mutate 0 = .ok z)
    (hv : mutate (current status) = .ok v) :
    setFieldPlan P uid k current mutate status = .ok
      [.send (.readInput (statusAddr uid) 6), .send (.writeSingle (ctrlAddr k uid) (current status)),
        .wait 500, .send (.writeSingle (ctrlAddr k uid) v)] := by
  rw [setFieldPlan, withStatusRead_of_isUid hu, setFieldWrites_ok P hu hk hz hv,
    primeSteps_required P _ hP]
  rfl

/-- What an encoder checks does not depend on the word it changes (R192). -/
def ChecksOperandAlone (mutate : Word → Except BlockError Word) : Prop :=
  ∃ (α : Type) (r : Except BlockError α) (f : Word → α → Word), ∀ w, mutate w = r.map (f w)

theorem ChecksOperandAlone.error {mutate : Word → Except BlockError Word}
    (h : ChecksOperandAlone mutate) {w : Word} {e : BlockError} (he : mutate w = .error e) (w' : Word) :
    mutate w' = .error e := by
  obtain ⟨α, r, f, hr⟩ := h
  rw [hr] at he ⊢
  cases r with
  | ok v => cases he
  | error e' => exact he

theorem ChecksOperandAlone.ok {mutate : Word → Except BlockError Word} (h : ChecksOperandAlone mutate)
    {w v : Word} (hv : mutate w = .ok v) (w' : Word) : ∃ v', mutate w' = .ok v' := by
  cases hm : mutate w' with
  | ok v' => exact ⟨v', rfl⟩
  | error e => cases (h.error hm w).symm.trans hv

theorem checksOperandAlone_const (r : Except BlockError Word) : ChecksOperandAlone fun _ => r :=
  ⟨Word, r, fun _ v => v, fun _ => by cases r <;> rfl⟩

/-! ### The table of operations (R202) -/

/-- The operation changes one field: control word `k`, number `j + 1`, from status word `j` as `current`
reads it, by what `encoder` computes, `mutate`. -/
structure FieldChange (P : Params) (op : HostOp) (j : Nat) (encoder : Word → Instr) (k : Word)
    (current : StatusBlock → Word) (mutate : Word → Except BlockError Word) : Prop where
  check : ChecksOperandAlone mutate
  writes : ∀ uid status, op.writes P uid status = setFieldWrites P uid k current mutate status := by
    intros; rfl
  meaning : ∀ w s, execWith P (encoder w) s = completeRes (mutate w) s := by intros; rfl
  number : k.toNat = j + 1 ∧ j < 3 := by decide
  word : ∀ status, status.words[j]? = some (current status) := by intros; rfl
  command : ∀ status, op.commands status = [encoder (current status)] := by intros; rfl

/-- R202's rows for the operations on one field: the control word, the status word and the word
computed. -/
theorem exists_fieldChange (P : Params) {op : HostOp} {j : Nat} {encoder : Word → Instr}
    (h : singleField op = some (j, encoder)) :
    ∃ k current mutate, FieldChange P op j encoder k current mutate := by
  cases op with
  | power target =>
    cases target with
    | none =>
      cases h
      exact ⟨1, StatusBlock.w0, fun w => .ok (togglePowerWord w),
        { check := ⟨Unit, .ok (), fun w _ => togglePowerWord w, fun _ => rfl⟩ }⟩
    | some b =>
      cases h
      exact ⟨1, StatusBlock.w0, fun w => setPowerWord w b, { check := ⟨_, _, _, fun _ => rfl⟩ }⟩
  | fanDirection b =>
    cases h
    exact ⟨1, StatusBlock.w0, fun w => setFanDirWord w b, { check := ⟨_, _, _, fun _ => rfl⟩ }⟩
  | fanVolume b =>
    cases h
    exact ⟨1, StatusBlock.w0, fun w => setFanVolWord w b, { check := ⟨_, _, _, fun _ => rfl⟩ }⟩
  | mode b =>
    cases h
    exact ⟨2, StatusBlock.w1, fun w => setModeWord w b, { check := ⟨_, _, _, fun _ => rfl⟩ }⟩
  | operatingStatus b =>
    cases h
    exact ⟨2, StatusBlock.w1, fun w => setOpStatWord w b, { check := ⟨_, _, _, fun _ => rfl⟩ }⟩
  | setpointHundredths c =>
    cases h
    exact ⟨3, StatusBlock.w2, fun _ => tempEncHWord P.roundTie c,
      { check := checksOperandAlone_const _ }⟩
  | setpointTenths t =>
    cases h
    exact ⟨3, StatusBlock.w2, fun _ => tempEncTWord t, { check := checksOperandAlone_const _ }⟩
  | filterSignReset => cases h
  | compound vol mode c => cases h

/-- The operations: one field, the filter-sign reset and the compound write. -/
theorem hostOp_cases (op : HostOp) :
    (∃ j encoder, singleField op = some (j, encoder)) ∨ op = .filterSignReset ∨
      ∃ vol mode c, op = .compound vol mode c := by
  cases op with
  | power target => cases target <;> exact .inl ⟨_, _, rfl⟩
  | filterSignReset => exact .inr (.inl rfl)
  | compound vol mode c => exact .inr (.inr ⟨vol, mode, c, rfl⟩)
  | _ => exact .inl ⟨_, _, rfl⟩

section FieldChange

variable {P : Params} {op : HostOp} {j : Nat} {encoder : Word → Instr} {k : Word}
  {current : StatusBlock → Word} {mutate : Word → Except BlockError Word}

theorem FieldChange.number_bounds (h : FieldChange P op j encoder k current mutate) :
    1 ≤ k.toNat ∧ k.toNat ≤ 3 := by
  obtain ⟨hk, hj⟩ := h.number
  omega

/-- All that the writes of a single-field change can be, for a good uid: the encoder's error, whatever
the status words, or the prime and the commit. -/
theorem FieldChange.writes_cases (h : FieldChange P op j encoder k current mutate) {uid : Word}
    (hu : IsUid uid) :
    (∃ e, ∀ status, mutate (current status) = .error e ∧ op.writes P uid status = .error e) ∨
    ∀ status, ∃ v, mutate (current status) = .ok v ∧ op.writes P uid status =
      .ok (primeSteps P (.writeSingle (ctrlAddr k uid) (current status)) ++
        [.send (.writeSingle (ctrlAddr k uid) v)]) := by
  cases hz : mutate 0 with
  | error e =>
    refine .inl ⟨e, fun status => ⟨h.check.error hz _, ?_⟩⟩
    rw [h.writes, setFieldWrites_error P current status hu h.number_bounds hz]
  | ok z =>
    refine .inr fun status => ?_
    obtain ⟨v, hv⟩ := h.check.ok hz (current status)
    exact ⟨v, hv, by rw [h.writes, setFieldWrites_ok P hu h.number_bounds hz hv]⟩

end FieldChange

/-! ### The filter-sign reset (R286) -/

theorem filterResetWrites_ok (P : Params) {uid : Word} (hu : IsUid uid) (status : StatusBlock) :
    filterResetWrites P uid status =
      .ok (primeSteps P (.writeSingle (ctrlAddr 2 uid) status.w1) ++
        [.send (.writeSingle (ctrlAddr 2 uid) (filterSetWord status.w1)), .wait silentInterval,
          .send (.writeSingle (ctrlAddr 2 uid) (filterClrWord status.w1))]) := by
  rw [filterResetWrites, addrCtrlWord_eq_ctrlAddr hu (by decide)]; rfl

/-! ### The compound write (R285, R287) -/

theorem compoundWord_error (a : Word) {vol : Word} (h : 7 < vol.toNat) :
    compoundWord a vol = .error .invalidArgument := by
  rw [compoundWord, readCode_error (Nat.not_lt.mpr h)]; rfl

theorem setModeWord_error (a : Word) {mode : Word} (h : 15 < mode.toNat) :
    setModeWord a mode = .error .invalidArgument := by
  rw [setModeWord, readCode_error (Nat.not_lt.mpr h)]; rfl

/-- The arguments of a compound write outside their domains (R288). -/
def BadCompound (vol mode c : Word) : Prop :=
  7 < vol.toNat ∨ 15 < mode.toNat ∨ 12790 < c.toInt.natAbs

theorem compoundWrites_ok (P : Params) {uid vol mode c : Word} {status : StatusBlock}
    {w0 w1 w2 : Word} (hu : IsUid uid) (h0 : compoundWord status.w0 vol = .ok w0)
    (h1 : setModeWord status.w1 mode = .ok w1) (h2 : tempEncHWord P.roundTie c = .ok w2) :
    compoundWrites P uid vol mode c status =
      .ok (primeSteps P (.writeMultiple (ctrlAddr 1 uid) [status.w0, status.w1, status.w2]) ++
        [.send (.writeMultiple (ctrlAddr 1 uid) [w0, w1, w2])]) := by
  rw [compoundWrites, addrCtrlWord_eq_ctrlAddr hu (by decide), h0, h1, h2]; rfl

theorem compoundWrites_error (P : Params) {uid vol mode c : Word} (hu : IsUid uid)
    (h : BadCompound vol mode c) (status : StatusBlock) :
    compoundWrites P uid vol mode c status = .error .invalidArgument := by
  rw [compoundWrites, addrCtrlWord_eq_ctrlAddr hu (by decide)]
  by_cases hvol : 7 < vol.toNat
  · rw [compoundWord_error _ hvol]; rfl
  rw [compoundWord_ok _ (by omega)]
  by_cases hmode : 15 < mode.toNat
  · rw [setModeWord_error _ hmode]; rfl
  rw [setModeWord_ok _ (by omega), tempEncHWord_error _ (by unfold BadCompound at h; omega)]; rfl

theorem compoundWrites_of_good (P : Params) {uid vol mode c : Word} (hu : IsUid uid)
    (h : ¬ BadCompound vol mode c) (status : StatusBlock) :
    ∃ w0 w1 w2, compoundWrites P uid vol mode c status =
      .ok (primeSteps P (.writeMultiple (ctrlAddr 1 uid) [status.w0, status.w1, status.w2]) ++
        [.send (.writeMultiple (ctrlAddr 1 uid) [w0, w1, w2])]) := by
  unfold BadCompound at h
  exact ⟨_, _, _, compoundWrites_ok P hu (compoundWord_ok _ (by omega)) (setModeWord_ok _ (by omega))
    (tempEncHWord_ok _ (by omega))⟩

/-! ### Errors before anything is sent (R288) -/

/-- Whether the writes are an error, and which, does not depend on the status words. -/
theorem writes_error_any {P : Params} {uid : Word} {op : HostOp} {status : StatusBlock} {e : BlockError}
    (hu : IsUid uid) (h : op.writes P uid status = .error e) (status' : StatusBlock) :
    op.writes P uid status' = .error e := by
  obtain ⟨j, encoder, hsingle⟩ | rfl | ⟨vol, mode, c, rfl⟩ := hostOp_cases op
  · obtain ⟨k, current, mutate, hchange⟩ := exists_fieldChange P hsingle
    obtain ⟨e', herr⟩ | hok := hchange.writes_cases hu
    · cases (herr status).2.symm.trans h
      exact (herr status').2
    · obtain ⟨v, -, hsteps⟩ := hok status
      cases hsteps.symm.trans h
  · cases (filterResetWrites_ok P hu status).symm.trans h
  · by_cases hbad : BadCompound vol mode c
    · cases (compoundWrites_error P hu hbad status).symm.trans h
      exact compoundWrites_error P hu hbad status'
    · obtain ⟨w0, w1, w2, hsteps⟩ := compoundWrites_of_good P hu hbad status
      cases hsteps.symm.trans h

theorem plan_error_any {P : Params} {uid : Word} {op : HostOp} {status : StatusBlock} {e : BlockError}
    (h : op.plan P uid status = .error e) (status' : StatusBlock) :
    op.plan P uid status' = .error e := by
  by_cases hu : IsUid uid
  · rw [plan_of_isUid P hu] at h ⊢
    cases hw : op.writes P uid status with
    | ok steps => rw [hw] at h; cases h
    | error e' =>
      rw [hw] at h
      rw [writes_error_any hu hw status']
      exact h
  · rw [plan_of_not_isUid P hu] at h ⊢
    exact h

theorem writes_ok_any {P : Params} {uid : Word} {op : HostOp} {status : StatusBlock}
    {steps : List BusStep} (hu : IsUid uid) (h : op.writes P uid status = .ok steps)
    (status' : StatusBlock) : ∃ steps', op.writes P uid status' = .ok steps' := by
  cases hw : op.writes P uid status' with
  | ok steps' => exact ⟨steps', rfl⟩
  | error e => cases (writes_error_any hu hw status).symm.trans h

theorem runOp_of_plan_error {P : Params} {uid : Word} {op : HostOp} {status : StatusBlock}
    {e : BlockError} (h : op.plan P uid status = .error e) (answers : List (List Answer)) :
    runOp P uid op answers = ([], .error (.block e)) := by
  rw [runOp, plan_error_any h StatusBlock.zero]

/-! ### An operation as it is run (R283, R289, R290) -/

theorem readStatusBlock_of_isUid (P : Params) {uid : Word} (hu : IsUid uid) (answers : List Answer) :
    readStatusBlock P uid answers =
      ((transact P (.readInput (statusAddr uid) 6) answers).1,
        (transact P (.readInput (statusAddr uid) 6) answers).2.bind statusBlockOf) := by
  rw [readStatusBlock, runRead_unitStatus P hu]

theorem runOp_of_read_error {P : Params} {uid : Word} {op : HostOp} {plan : List BusStep}
    {answers : List (List Answer)} {e : HostError} (hu : IsUid uid)
    (hplan : op.plan P uid StatusBlock.zero = .ok plan)
    (he : (transact P (.readInput (statusAddr uid) 6) (answers.headD [])).2 = .error e) :
    runOp P uid op answers =
      ((transact P (.readInput (statusAddr uid) 6) (answers.headD [])).1, .error e) := by
  rw [runOp, hplan]
  simp only [readStatusBlock_of_isUid P hu, he, Except.bind]

theorem runOp_of_read_ok {P : Params} {uid : Word} {op : HostOp} {plan steps : List BusStep}
    {answers : List (List Answer)} {ws : List Word} {b : StatusBlock} (hu : IsUid uid)
    (hplan : op.plan P uid StatusBlock.zero = .ok plan)
    (hok : (transact P (.readInput (statusAddr uid) 6) (answers.headD [])).2 = .ok ws)
    (hb : statusBlockOf ws = .ok b) (hsteps : op.writes P uid b = .ok steps) :
    runOp P uid op answers =
      ((transact P (.readInput (statusAddr uid) 6) (answers.headD [])).1 ++
        (runPlan P steps answers.tail).1, (runPlan P steps answers.tail).2) := by
  rw [runOp, hplan]
  simp only [readStatusBlock_of_isUid P hu, hok, Except.bind, hb, hsteps]

/-! ### The addresses of every plan (R42, I17) -/

theorem sends_append (l l' : List BusStep) : sends (l ++ l') = sends l ++ sends l' :=
  List.filterMap_append

theorem sends_primeSteps_subset (P : Params) {t t' : Transaction} (h : t' ∈ sends (primeSteps P t)) :
    t' = t := by
  unfold primeSteps at h
  split at h
  · exact List.mem_singleton.mp h
  · cases h

/-- A prime before steps on named addresses, itself on one. -/
theorem prime_admitted (P : Params) {t : Transaction} {steps : List BusStep} (ht : t.admitted = true)
    (h : ∀ t' ∈ sends steps, t'.admitted = true) :
    ∀ t' ∈ sends (primeSteps P t ++ steps), t'.admitted = true := by
  intro t' hmem
  rw [sends_append, List.mem_append] at hmem
  obtain hprime | hsteps := hmem
  · rwa [sends_primeSteps_subset P hprime]
  · exact h t' hsteps

theorem ctrlAddr_bounds {k uid : Word} (hu : IsUid uid) (hk : 1 ≤ k.toNat ∧ k.toNat ≤ 3) :
    2000 ≤ (ctrlAddr k uid).toNat ∧ (ctrlAddr k uid).toNat + 3 ≤ 2047 + k.toNat := by
  obtain ⟨hlow, hhigh⟩ := hu
  rw [ctrlAddr, BitVec.toNat_ofNat, Nat.mod_eq_of_lt (by omega)]
  omega

theorem writeSingle_ctrlAddr_admitted {k uid : Word} (hu : IsUid uid)
    (hk : 1 ≤ k.toNat ∧ k.toNat ≤ 3) (value : Word) :
    (Transaction.writeSingle (ctrlAddr k uid) value).admitted = true := by
  obtain ⟨hlow, hhigh⟩ := ctrlAddr_bounds hu hk
  exact writeSingle_admitted (by omega) value

theorem writeMultiple_ctrlAddr_admitted {uid : Word} (hu : IsUid uid) (v0 v1 v2 : Word) :
    (Transaction.writeMultiple (ctrlAddr 1 uid) [v0, v1, v2]).admitted = true := by
  obtain ⟨hlow, hhigh⟩ := ctrlAddr_bounds hu (k := 1) (by decide)
  exact writeMultiple_admitted (List.cons_ne_nil _ _) ⟨hlow, hhigh⟩

theorem writes_admitted {P : Params} {uid : Word} {status : StatusBlock} {op : HostOp}
    {steps : List BusStep} (hu : IsUid uid) (h : op.writes P uid status = .ok steps) :
    ∀ t ∈ sends steps, t.admitted = true := by
  obtain ⟨j, encoder, hsingle⟩ | rfl | ⟨vol, mode, c, rfl⟩ := hostOp_cases op
  · obtain ⟨k, current, mutate, hchange⟩ := exists_fieldChange P hsingle
    have hk := hchange.number_bounds
    obtain ⟨e, herr⟩ | hok := hchange.writes_cases hu
    · cases (herr status).2.symm.trans h
    · obtain ⟨v, -, hsteps⟩ := hok status
      cases hsteps.symm.trans h
      exact prime_admitted P (writeSingle_ctrlAddr_admitted hu hk _)
        (List.forall_mem_singleton.mpr (writeSingle_ctrlAddr_admitted hu hk v))
  · cases (filterResetWrites_ok P hu status).symm.trans h
    have hwrite := writeSingle_ctrlAddr_admitted hu (k := 2) (by decide)
    exact prime_admitted P (hwrite _) (List.forall_mem_cons.mpr
      ⟨hwrite (filterSetWord status.w1),
        List.forall_mem_singleton.mpr (hwrite (filterClrWord status.w1))⟩)
  · by_cases hbad : BadCompound vol mode c
    · cases (compoundWrites_error P hu hbad status).symm.trans h
    · obtain ⟨w0, w1, w2, hsteps⟩ := compoundWrites_of_good P hu hbad status
      cases hsteps.symm.trans h
      exact prime_admitted P (writeMultiple_ctrlAddr_admitted hu _ _ _)
        (List.forall_mem_singleton.mpr (writeMultiple_ctrlAddr_admitted hu w0 w1 w2))

theorem statusRead_admitted {uid : Word} (hu : IsUid uid) :
    (Transaction.readInput (statusAddr uid) 6).admitted = true := by
  obtain ⟨unit, rfl⟩ := exists_unit_of_isUid hu
  rw [← read_status_uidOf]
  exact read_admitted rfl

/-! ### The obligations -/

/-- Settles O51: the plans of a single-field change (`setFieldPlan_ok`) and of the filter-sign reset. -/
theorem setFieldPrimesWaitsCommits : Obligations.SetFieldPrimesWaitsCommits := by
  unfold Obligations.SetFieldPrimesWaitsCommits
  refine ⟨rfl, fun P hP => ⟨fun uid k current mutate status => ⟨?_, ?_, ?_⟩, ?_⟩⟩
  · intro v z hu hk1 hk3 hz hv
    exact ⟨_, _, unitAddresses hu (by omega) (by omega), setFieldPlan_ok hP hu ⟨hk1, hk3⟩ hz hv⟩
  · exact fun hu => withStatusRead_of_not_isUid hu _
  · intro e hu hk1 hk3 hz
    rw [setFieldPlan, withStatusRead_of_isUid hu,
      setFieldWrites_error P current status hu ⟨hk1, hk3⟩ hz]
    rfl
  · intro uid status s pattern cleared hu hset hclr
    obtain rfl := Except.ok.inj ((delivers_iff_of_completeRes (exec_w1FilterSet _ 0 s)).mp hset)
    obtain rfl := Except.ok.inj ((delivers_iff_of_completeRes (exec_w1FilterClr _ 0 s)).mp hclr)
    refine ⟨_, _, unitAddresses hu (k := 2) (by decide) rfl, ?_⟩
    rw [plan_of_isUid P hu, writes_filterSignReset, filterResetWrites_ok P hu,
      primeSteps_required P _ hP]
    rfl

/-- Settles O52: an operation on one field is a row of R202's table (`exists_fieldChange`), whose
command computes what the plan commits or raises its error. -/
theorem operationsUseTheirCommands : Obligations.OperationsUseTheirCommands := by
  unfold Obligations.OperationsUseTheirCommands
  refine fun P uid status op hP => ⟨fun hu => plan_of_not_isUid P hu status op,
    fun j encoder w s hsingle hw hu => ?_⟩
  obtain ⟨k, current, mutate, hchange⟩ := exists_fieldChange P hsingle
  obtain rfl := Option.some.inj ((hchange.word status).symm.trans hw)
  obtain ⟨hk, hj⟩ := hchange.number
  rw [hchange.meaning, raised_completeRes_iff, plan_of_isUid P hu]
  simp only [delivered_completeRes_iff]
  refine ⟨hchange.command status, fun v hv => ⟨_, _, unitAddresses hu hj hk, ?_⟩, fun he => ?_⟩
  · obtain ⟨z, hz⟩ := hchange.check.ok hv 0
    rw [hchange.writes, setFieldWrites_ok P hu hchange.number_bounds hz hv, primeSteps_required P _ hP]
    rfl
  · rw [hchange.writes, setFieldWrites_error P current status hu hchange.number_bounds
      (hchange.check.error he 0)]
    rfl

/-- Settles O53: the three commands compute the words committed; an argument outside its domain makes
the plan an error (`compoundWrites_error`), and then nothing is sent. -/
theorem compoundWriteIsOneTransaction : Obligations.CompoundWriteIsOneTransaction := by
  unfold Obligations.CompoundWriteIsOneTransaction
  refine fun P s uid vol mode c status hP => ⟨?_, fun hu answers => ?_, fun hu hbad answers => ?_⟩
  · intro w0 w1 w2 hu h0 h1 h2
    have hw0 := (delivers_iff_of_completeRes (exec_w0Compound _ vol s)).mp h0
    have hw1 := (delivers_iff_of_completeRes (exec_w1SetMode _ mode s)).mp h1
    have hw2 : tempEncHWord P.roundTie c = .ok w2 := delivered_completeRes_iff.mp h2
    refine ⟨_, _, unitAddresses hu (k := 1) (by decide) rfl, ?_⟩
    rw [plan_of_isUid P hu, writes_compound, compoundWrites_ok P hu hw0 hw1 hw2,
      primeSteps_required P _ hP]
    rfl
  · have hplan := plan_of_not_isUid P hu status (.compound vol mode c)
    exact ⟨hplan, runOp_of_plan_error hplan answers⟩
  · have hplan : (HostOp.compound vol mode c).plan P uid status = .error .invalidArgument := by
      rw [plan_of_isUid P hu, writes_compound, compoundWrites_error P hu hbad]; rfl
    exact ⟨hplan, runOp_of_plan_error hplan answers⟩

/-- Settles O54: an error of the plan does not depend on the status words (`plan_error_any`), so the
check before the read decides it; after a read of 6 words the writes are those of the words read. -/
theorem operationsValidateBeforeSending : Obligations.OperationsValidateBeforeSending := by
  unfold Obligations.OperationsValidateBeforeSending
  refine fun P uid op answers => ⟨fun status e h => runOp_of_plan_error h answers,
    fun status plan hplan => ?_⟩
  obtain ⟨hu, steps, hsteps, -⟩ := plan_eq_ok_iff.mp hplan
  obtain ⟨steps₀, hsteps₀⟩ := writes_ok_any hu hsteps StatusBlock.zero
  have hcheck := plan_eq_ok_iff.mpr ⟨hu, steps₀, hsteps₀, rfl⟩
  refine ⟨statusAddr uid, statusAddr_toNat hu, fun e he => runOp_of_read_error hu hcheck he,
    fun ws hok => ?_⟩
  obtain ⟨b, hb, hwords⟩ := statusBlockOf_ok (transact_length hok)
  obtain ⟨rest, hrest⟩ := writes_ok_any hu hsteps b
  exact ⟨b, rest, hwords, plan_eq_ok_iff.mpr ⟨hu, rest, hrest, rfl⟩,
    runOp_of_read_ok hu hcheck hok hb hrest⟩

/-- Settles O21: a plan reads its unit's status block and writes its control words, a read reads one
item of the map, and a transaction on an unnamed address is refused. -/
theorem accessesStayOnNamedAddresses : Obligations.AccessesStayOnNamedAddresses := by
  unfold Obligations.AccessesStayOnNamedAddresses
  refine ⟨fun addr => ⟨namedAddress_input_iff addr, namedAddress_holding_iff addr⟩,
    fun P uid status op plan hplan => ?_, fun r t ht => ?_,
    fun P t answers => transact_unnamed P answers⟩
  · obtain ⟨hu, steps, hsteps, rfl⟩ := plan_eq_ok_iff.mp hplan
    exact List.forall_mem_cons.mpr ⟨statusRead_admitted hu, writes_admitted hu hsteps⟩
  · obtain ⟨m, hsp, rfl⟩ := transaction_eq_read ht
    exact read_admitted hsp

end Sys2Proof.Machine
